-- ==== Sys2Proof/Word.lean ====
section
/-! DEFINITION. The word type and the small number types of the hub. -/

namespace Sys2Proof

/-- A word is 32 bits (00_scope.md, 4.1). -/
abbrev Word := BitVec 32

/-- A channel and the port permanently bound to it, 0 to 7 (00_scope.md, 4.3). -/
abbrev Chan := Fin 8

/-- A domain tag; domain 0 is the supervisor, 1 to 3 are the tenants (00_scope.md, 4.3). -/
abbrev Dom := Fin 4

/-- A byte offset in the 4 KiB control window (R184). -/
abbrev Offset := BitVec 12

/-- A byte offset in the 32 KiB staging aperture (R134). -/
abbrev ApertureOffset := BitVec 15

/-- The number of a word of the staging store, 0 to 8191 (R129). -/
abbrev StoreIndex := BitVec 13

end Sys2Proof
end

