-- ==== Sys2Proof/Config.lean ====
section
/-! DEFINITION. The fixed capacities and reset values of the part. The spec leaves no value to the
implementation ("No behaviour in this manual varies from one revision to another", 00_scope.md 1.3), so there
is no free value here. -/

namespace Sys2Proof.Config

/-- ID reads 0x01801008 in every state and to every domain (R186). -/
def idWord : Word := 0x01801008

/-- A run queue holds at most six entries (R31). -/
def queueDepth : Nat := 6

/-- A log holds at most sixteen records (R91). -/
def logDepth : Nat := 16

/-- The staging store holds 8192 words (R129). -/
def storeWords : Nat := 8192

/-- The staging store holds 32768 bytes as the aperture sees it (R110). -/
def storeBytes : Nat := 32768

/-- The host address space in 4 KiB pages (R108). -/
def hostPages : Nat := 1048576

/-- The staging store in units of 64 words (R108). -/
def stageUnits : Nat := 128

/-- Reset value of CH_CONFIG.ANSWER_TIMEOUT (R63). -/
def answerTimeout : BitVec 12 := 1000

/-- Reset value of CH_CONFIG.READY_TIMEOUT (R63). -/
def readyTimeout : BitVec 16 := 50000

/-- Reset value of MEM_TIMEOUT (R127). -/
def memTimeout : BitVec 10 := 256

/-- Reset value of TICK_DIVIDER (R171). -/
def tickDivider : BitVec 12 := 50

/-- Reset value of every LOG_THRESHOLD (R102). -/
def logThreshold : BitVec 5 := 1

end Sys2Proof.Config
end

