-- ==== Sys2Proof/Syntax.lean ====
section
/-! DEFINITION. The commands: one constructor for each row of spec/opcode_table.json, with the operands that
the row's rule gives it. The table gives no row any bits, so an operand's type is the field's own width. -/

namespace Sys2Proof

/-- The code of an answer (section 1.3). -/
inductive AnswerCode where
  | accept
  | refuse
  deriving DecidableEq, Repr

/-- The close code that a CLOSE carries (R1, R11). -/
inductive CloseCode where
  | normal
  | abort
  deriving DecidableEq, Repr

/-- The width of a host access; only a 32-bit access is acted on (R103 step 1, R134, R184). -/
inductive Size where
  | byte
  | half
  | word
  | double
  deriving DecidableEq, Repr

/-- What a host access to the control window does. -/
inductive HostAccess where
  | read
  | write (value : Word)
  deriving DecidableEq, Repr

/-- A response from host memory (R126, R127): bit i of `error` is the ERROR status of word i of a read; for a
write bit 0 is the one status. A read of n words takes the first n words (log entry 13). -/
structure MemResponse where
  error : BitVec 5
  w0 : Word
  w1 : Word
  w2 : Word
  w3 : Word
  w4 : Word
  deriving DecidableEq, Repr

/-- The commands of the hub. A command that is a host access names the domain tag first (R103). -/
inductive Instr where
  /-- ANSWER (R4): an answer with its code, kind code, sequence count and optional word. -/
  | answer (port : Chan) (code : AnswerCode) (kind : BitVec 3) (seq : BitVec 8) (word : Option Word)
  /-- NO_ANSWER (R8): the answer timer of the port expires. -/
  | noAnswer (port : Chan)
  /-- HAIL_RISE (R15). -/
  | hailRise (port : Chan)
  /-- HAIL_FALL (R15). -/
  | hailFall (port : Chan)
  /-- READY_CHANGE (R51): READY changes to the level. -/
  | readyChange (port : Chan) (level : Bool)
  /-- NOT_READY (R64): the ready timer of the channel expires. -/
  | notReady (channel : Chan)
  /-- PACE_EXPIRY (R56): the pace timer of the channel expires. -/
  | paceExpiry (channel : Chan)
  /-- TICK (R171): a tick boundary. -/
  | tick
  /-- TAKE_RUN (R44): the channel takes the head entry of its queue. -/
  | takeRun (channel : Chan)
  /-- MEMORY_ISSUE (R125): the interconnect takes the presented request. -/
  | memoryIssue
  /-- MEMORY_RESPONSE (R127): a response with the channel and access number it carries (R126). -/
  | memoryResponse (channel : Chan) (number : BitVec 8) (response : MemResponse)
  /-- MEMORY_TIMEOUT (R127): the memory response timer of the channel's slot expires. -/
  | memoryTimeout (channel : Chan)
  /-- STORE_ACCESS_DONE (R133): the access granted in the store completes. -/
  | storeAccessDone
  /-- APERTURE_READ (R134). -/
  | apertureRead (domain : Dom) (size : Size) (offset : ApertureOffset)
  /-- APERTURE_WRITE (R134). -/
  | apertureWrite (domain : Dom) (size : Size) (offset : ApertureOffset) (value : Word)
  /-- POST (R32): a write of the value to CH_POST. -/
  | post (domain : Dom) (channel : Chan) (value : Word)
  /-- START (R42). -/
  | start (domain : Dom) (channel : Chan)
  /-- STOP (R67). -/
  | stop (domain : Dom) (channel : Chan)
  /-- FLUSH (R35). -/
  | flush (domain : Dom) (channel : Chan)
  /-- RESUME (R82). -/
  | resume (domain : Dom) (channel : Chan)
  /-- RESET_CHANNEL (R83). -/
  | resetChannel (domain : Dom) (channel : Chan)
  /-- DETACH (R155). -/
  | detach (domain : Dom) (channel : Chan)
  /-- ATTACH (R156). -/
  | attach (domain : Dom) (channel : Chan)
  /-- CH_COMMAND_UNASSIGNED (R85): a write of an unassigned value to CH_COMMAND. -/
  | chCommandUnassigned (domain : Dom) (channel : Chan) (value : Word)
  /-- CH_PORT_STRAY_CLEAR (R17): a write to CH_PORT with STRAY written as 1. -/
  | chPortStrayClear (domain : Dom) (channel : Chan)
  /-- HUB_RESET (R176). -/
  | hubReset (domain : Dom)
  /-- ENTER_QUIESCE (R178). -/
  | enterQuiesce (domain : Dom)
  /-- RESUME_ALL (R182). -/
  | resumeAll (domain : Dom)
  /-- HUB_COMMAND_UNASSIGNED (R177): a write of an unassigned value to HUB_COMMAND. -/
  | hubCommandUnassigned (domain : Dom) (value : Word)
  /-- LOG_POP (R95). -/
  | logPop (domain : Dom) (log : Dom)
  /-- LOG_THRESHOLD_WRITE (R99). -/
  | logThresholdWrite (domain : Dom) (log : Dom) (value : Word)
  /-- GRD_ASSIGN (R118): channel in bits 2:0 and new domain in bits 5:4 of the value. -/
  | grdAssign (domain : Dom) (value : Word)
  /-- GRD_TRAP_ACK (R117). -/
  | grdTrapAck (domain : Dom)
  /-- SCR_HITS_CLEAR (R137): a write to word 3 of the screen entry. -/
  | scrHitsClear (domain : Dom) (entry : Chan)
  /-- EVC_CLEAR (R162). -/
  | evcClear (domain : Dom) (value : Word)
  /-- DIRECT_LEAD (R149). -/
  | directLead (domain : Dom) (port : Chan)
  /-- DIRECT_TURN (R149). -/
  | directTurn (domain : Dom) (port : Chan)
  /-- DIRECT_PUT (R149): with the command's LAST mark. -/
  | directPut (domain : Dom) (port : Chan) (last : Bool)
  /-- DIRECT_GET (R149): with the command's LAST mark. -/
  | directGet (domain : Dom) (port : Chan) (last : Bool)
  /-- DIRECT_ASK (R149). -/
  | directAsk (domain : Dom) (port : Chan)
  /-- DIRECT_CLOSE (R149): with the command's close code. -/
  | directClose (domain : Dom) (port : Chan) (code : CloseCode)
  /-- DIRECT_INVALID_KIND (R149): KIND 0 or 7. -/
  | directInvalidKind (domain : Dom) (port : Chan) (kind : BitVec 3)
  /-- REGISTER_WRITE (R187): a write to a register with no row of its own, or to no register. -/
  | registerWrite (domain : Dom) (size : Size) (offset : Offset) (value : Word)
  /-- REGISTER_ACCESS_VIOLATION (R105): a tenant's 32-bit aligned access to an offset not granted to it. -/
  | registerAccessViolation (domain : Dom) (offset : Offset) (access : HostAccess)
  /-- POWER_ON_RESET (R174): RESET is asserted. -/
  | powerOnReset
  /-- RESET_RELEASE (R174): RESET is released. -/
  | resetRelease
  /-- INITIALISATION_END (R175). -/
  | initialisationEnd
  /-- SUPPLY_WARN_ASSERT (R178). -/
  | supplyWarnAssert
  /-- SUPPLY_WARN_DEASSERT (R181). -/
  | supplyWarnDeassert
  /-- STORAGE_FAILURE (R129): the store word now holds the value with a check bit that disagrees. -/
  | storageFailure (word : StoreIndex) (value : Word)
  deriving DecidableEq, Repr

end Sys2Proof
end

