-- ==== Sys2Proof/Machine/RegisterMap.lean ====
section
/-! DEFINITION. The map of the control window (section 12.2): the registers, the offset of each, and the
register at an offset, if one lies there (R184, R185). -/

namespace Sys2Proof.Machine

/-- The registers of a channel group, at relative offsets 0x00 to 0x1C (section 12.2). -/
inductive ChReg where
  | command
  | status
  | post
  | postStatus
  | config
  | progress
  | current
  | port
  deriving DecidableEq, Repr

/-- The registers of a log window (section 12.2). -/
inductive LogReg where
  | count
  | threshold
  | pop
  | head (k : Fin 6)
  deriving DecidableEq, Repr

/-- The registers of the control window (section 12.2). A tenant t of 0 to 2 stands for domain t + 1. -/
inductive Reg where
  | id
  | hubStatus
  | hubCommand
  | tickDivider
  | memTimeout
  | hostBase (t : Fin 3)
  | hostSize (t : Fin 3)
  | stageBase (t : Fin 3)
  | stageSize (t : Fin 3)
  | assign
  | trapSlot (w : Fin 4)
  | trapAck
  | evcRaw
  | evcPending
  | evcClear
  | evcEnable
  | evcRoute
  | evcWakeEnable
  | evcIdentAlert
  | evcIdentNotice
  | screen (k : Fin 8) (w : Fin 4)
  | lastHit
  | dirCommand
  | dirWordOut
  | dirStatus
  | dirWordIn
  | ch (c : Chan) (r : ChReg)
  | log (d : Dom) (r : LogReg)
  deriving DecidableEq, Repr

/-- Relative offset of a register in its channel group. -/
def ChReg.rel : ChReg → Nat
  | .command => 0x00
  | .status => 0x04
  | .post => 0x08
  | .postStatus => 0x0C
  | .config => 0x10
  | .progress => 0x14
  | .current => 0x18
  | .port => 0x1C

/-- Relative offset of a register in its log window. -/
def LogReg.rel : LogReg → Nat
  | .count => 0x00
  | .threshold => 0x04
  | .pop => 0x08
  | .head k => 0x10 + 4 * k.val

/-- The offset of a register (section 12.2). -/
def Reg.offsetNat : Reg → Nat
  | .id => 0x000
  | .hubStatus => 0x004
  | .hubCommand => 0x008
  | .tickDivider => 0x00C
  | .memTimeout => 0x010
  | .hostBase t => 0x100 + 0x10 * t.val
  | .hostSize t => 0x104 + 0x10 * t.val
  | .stageBase t => 0x108 + 0x10 * t.val
  | .stageSize t => 0x10C + 0x10 * t.val
  | .assign => 0x140
  | .trapSlot w => 0x150 + 4 * w.val
  | .trapAck => 0x160
  | .evcRaw => 0x200
  | .evcPending => 0x204
  | .evcClear => 0x208
  | .evcEnable => 0x20C
  | .evcRoute => 0x210
  | .evcWakeEnable => 0x214
  | .evcIdentAlert => 0x218
  | .evcIdentNotice => 0x21C
  | .screen k w => 0x300 + 0x10 * k.val + 4 * w.val
  | .lastHit => 0x380
  | .dirCommand => 0x3C0
  | .dirWordOut => 0x3C4
  | .dirStatus => 0x3C8
  | .dirWordIn => 0x3CC
  | .ch c r => 0x400 + 0x80 * c.val + r.rel
  | .log d r => 0x800 + 0x40 * d.val + r.rel

/-- The offset of a register as a control-window offset. -/
def Reg.offset (r : Reg) : Offset := BitVec.ofNat 12 r.offsetNat

/-- The channel register at a relative offset of a channel group; 0x20 to 0x7F hold none (R185). -/
def chRegAt (rel : Nat) : Option ChReg :=
  match rel with
  | 0x00 => some .command
  | 0x04 => some .status
  | 0x08 => some .post
  | 0x0C => some .postStatus
  | 0x10 => some .config
  | 0x14 => some .progress
  | 0x18 => some .current
  | 0x1C => some .port
  | _ => none

/-- The log register at a relative offset of a log window; 0x0C and 0x28 to 0x3F hold none (R185). -/
def logRegAt (rel : Nat) : Option LogReg :=
  match rel with
  | 0x00 => some .count
  | 0x04 => some .threshold
  | 0x08 => some .pop
  | 0x10 => some (.head 0)
  | 0x14 => some (.head 1)
  | 0x18 => some (.head 2)
  | 0x1C => some (.head 3)
  | 0x20 => some (.head 4)
  | 0x24 => some (.head 5)
  | _ => none

/-- The register of the hub region (0x000 to 0x0FF) at an offset. -/
def hubRegAt (o : Nat) : Option Reg :=
  match o with
  | 0x000 => some .id
  | 0x004 => some .hubStatus
  | 0x008 => some .hubCommand
  | 0x00C => some .tickDivider
  | 0x010 => some .memTimeout
  | _ => none

/-- The window register of a tenant at an offset within its sixteen bytes (R107). -/
def windowRegAt (t : Fin 3) (rel : Nat) : Option Reg :=
  match rel with
  | 0x0 => some (.hostBase t)
  | 0x4 => some (.hostSize t)
  | 0x8 => some (.stageBase t)
  | 0xC => some (.stageSize t)
  | _ => none

/-- The register of the Guard region (0x100 to 0x1FF) at an offset. -/
def guardRegAt (o : Nat) : Option Reg :=
  if o < 0x110 then windowRegAt 0 (o - 0x100)
  else if o < 0x120 then windowRegAt 1 (o - 0x110)
  else if o < 0x130 then windowRegAt 2 (o - 0x120)
  else match o with
  | 0x140 => some .assign
  | 0x150 => some (.trapSlot 0)
  | 0x154 => some (.trapSlot 1)
  | 0x158 => some (.trapSlot 2)
  | 0x15C => some (.trapSlot 3)
  | 0x160 => some .trapAck
  | _ => none

/-- The register of the Event Concentrator region (0x200 to 0x2FF) at an offset. -/
def evcRegAt (o : Nat) : Option Reg :=
  match o with
  | 0x200 => some .evcRaw
  | 0x204 => some .evcPending
  | 0x208 => some .evcClear
  | 0x20C => some .evcEnable
  | 0x210 => some .evcRoute
  | 0x214 => some .evcWakeEnable
  | 0x218 => some .evcIdentAlert
  | 0x21C => some .evcIdentNotice
  | _ => none

/-- The register of the Status Screen and Direct Path regions (0x300 to 0x3FF) at an offset. -/
def screenDirectRegAt (o : Nat) : Option Reg :=
  if o < 0x380 then
    if o % 4 = 0 then some (.screen (Fin.ofNat 8 ((o - 0x300) / 0x10)) (Fin.ofNat 4 (o % 0x10 / 4))) else none
  else match o with
  | 0x380 => some .lastHit
  | 0x3C0 => some .dirCommand
  | 0x3C4 => some .dirWordOut
  | 0x3C8 => some .dirStatus
  | 0x3CC => some .dirWordIn
  | _ => none

/-- The register at an offset, or none where the offset is unmapped (R185). -/
def regAt (off : Offset) : Option Reg :=
  let o := off.toNat
  if o < 0x100 then hubRegAt o
  else if o < 0x200 then guardRegAt o
  else if o < 0x300 then evcRegAt o
  else if o < 0x400 then screenDirectRegAt o
  else if o < 0x800 then (chRegAt (o % 0x80)).map (Reg.ch (Fin.ofNat 8 ((o - 0x400) / 0x80)))
  else if o < 0x900 then (logRegAt (o % 0x40)).map (Reg.log (Fin.ofNat 4 ((o - 0x800) / 0x40)))
  else none

/-- The channel whose register group contains the offset (R104, R115). -/
def groupChannel (off : Offset) : Option Chan :=
  if 0x400 ≤ off.toNat ∧ off.toNat < 0x800 then some (Fin.ofNat 8 ((off.toNat - 0x400) / 0x80)) else none

/-- The log whose window contains the offset (R104). -/
def windowLog (off : Offset) : Option Dom :=
  if 0x800 ≤ off.toNat ∧ off.toNat < 0x900 then some (Fin.ofNat 4 ((off.toNat - 0x800) / 0x40)) else none

/-- A 32-bit access at a multiple of 4 is the only one acted on (R103 step 1, R184). -/
def actedOn (size : Size) (off : Offset) : Bool :=
  size == .word && off.toNat % 4 == 0

/-- A write to the register with the value has a row of the table of its own. -/
def hasOwnRow (r : Reg) (value : Word) : Bool :=
  match r with
  | .hubCommand | .assign | .trapAck | .evcClear | .dirCommand => true
  | .screen _ w => w == 3
  | .ch _ .command | .ch _ .post => true
  | .ch _ .port => value.getLsbD 19
  | .log _ .threshold | .log _ .pop => true
  | _ => false

end Sys2Proof.Machine
end

