-- ==== Sys2Proof/WellFormed.lean ====
section
/-! DEFINITION. What a command's operands must satisfy for it to be the row it is named after. Every operand's
type already bounds it; the checks here are those no type makes. An ill-formed command still has a meaning: it acts
as the bus access it spells (log entry 14). -/

namespace Sys2Proof

/-- The checks on a command's operands. -/
def Instr.wellFormed : Instr → Bool
  /- R85: the values 1 to 7 of CH_COMMAND are assigned. -/
  | .chCommandUnassigned _ _ v => !(1 ≤ v.toNat && v.toNat ≤ 7)
  /- R177: the values 1 to 3 of HUB_COMMAND are assigned. -/
  | .hubCommandUnassigned _ v => !(1 ≤ v.toNat && v.toNat ≤ 3)
  /- R149: only KIND 0 and 7 are invalid. -/
  | .directInvalidKind _ _ k => k == 0 || k == 7
  /- R187: the register has no row of its own; an access that is not acted on reaches no register (R184). -/
  | .registerWrite _ size off v =>
    !(Machine.actedOn size off) || ((Machine.regAt off).all fun r => !(Machine.hasOwnRow r v))
  /- R103, R104: domain 0, ID and a tenant's own log window never violate. -/
  | .registerAccessViolation d off _ =>
    d != 0 && Machine.actedOn .word off && Machine.regAt off != some .id && Machine.windowLog off != some d
  | .answer .. | .noAnswer .. | .hailRise .. | .hailFall .. | .readyChange .. | .notReady .. | .paceExpiry ..
  | .tick | .takeRun .. | .memoryIssue | .memoryResponse .. | .memoryTimeout .. | .storeAccessDone
  | .apertureRead .. | .apertureWrite .. | .post .. | .start .. | .stop .. | .flush .. | .resume ..
  | .resetChannel .. | .detach .. | .attach .. | .chPortStrayClear .. | .hubReset .. | .enterQuiesce ..
  | .resumeAll .. | .logPop .. | .logThresholdWrite .. | .grdAssign .. | .grdTrapAck .. | .scrHitsClear ..
  | .evcClear .. | .directLead .. | .directTurn .. | .directPut .. | .directGet .. | .directAsk ..
  | .directClose .. | .powerOnReset | .resetRelease | .initialisationEnd | .supplyWarnAssert
  | .supplyWarnDeassert | .storageFailure .. => true

end Sys2Proof
end

