-- ==== Sys2Proof/Decode.lean ====
section
/-! DEFINITION. The command a word of the opcode table spells. spec/opcode_table.json gives no row any bits (every
row's "fields" is empty and none is fixed), so no word spells a command (log entry 17). -/

namespace Sys2Proof

/-- The command that `nbits` bits `w` of the opcode table spell: none, as the table gives no row bits. -/
def decodeTableWord (_nbits _w : Nat) : Option Instr := none

end Sys2Proof
end

