-- ==== Sys2Proof/Machine/State.lean ====
section
/-! DEFINITION. The state of the hub as plain data, and its value right after power-on reset. -/

namespace Sys2Proof.Machine

/-! ### Hub Control -/

/-- The hub state (R173). -/
inductive HubState where
  | initialising
  | operational
  | quiescing
  | quiesced
  deriving DecidableEq, Repr

/-- HUB_STATUS.LAST_CMD (R173, R177). -/
inductive HubCmdStatus where
  | none
  | accepted
  | ignored
  | rejected
  deriving DecidableEq, Repr

/-! ### Timers -/

/-- A timer of the hub (R172): stopped; started with 0 and never expiring; running with `left` tick boundaries
still to count; or due, having counted its last boundary and not yet having been taken or stopped. -/
inductive Timer where
  | stopped
  | unlimited
  | running (left : Nat)
  | due
  deriving DecidableEq, Repr

/-! ### Threadline ports -/

/-- The six kinds of transaction (R1). -/
inductive Kind where
  | lead
  | turn
  | put
  | get
  | ask
  | close
  deriving DecidableEq, Repr

/-- Who asked for a transaction (R3). -/
inductive Issuer where
  | channel
  | direct
  deriving DecidableEq, Repr

/-- The payload that the hub sends with a transaction (R1). -/
inductive Payload where
  | none
  | word (w : Word)
  | data (w : Word) (last : Bool)
  | mark (last : Bool)
  | close (code : CloseCode)
  deriving DecidableEq, Repr

/-- What a port controller records of the transaction outstanding (R3). -/
structure Transaction where
  kind : Kind
  seq : BitVec 8
  issuer : Issuer
  deriving DecidableEq, Repr

/-- A port controller with the partner's two levels (R3, R6, R7, R13 to R15). LINK_IDLE is `outstanding = none`. -/
structure Port where
  outstanding : Option Transaction
  timer : Timer
  seq : BitVec 8
  ready : Bool
  hail : Bool
  hailSeen : Bool
  stray : Bool
  deriving DecidableEq, Repr

/-! ### Accesses -/

/-- The two address spaces (R31, R122). -/
inductive Space where
  | host
  | staging
  deriving DecidableEq, Repr

/-- Direction and extent of an access; a write carries its words (R122, R124). -/
inductive AccessBody where
  | read (n : Nat)
  | write (ws : List Word)
  deriving DecidableEq, Repr

/-- An access at a translated byte address (R122, R124). -/
structure Access where
  addr : Word
  body : AccessBody
  deriving DecidableEq, Repr

/-- A channel's memory-port access slot (R123), with the access number and response timer of an issued access. -/
inductive Slot where
  | empty
  | requested (a : Access)
  | outstanding (a : Access) (number : BitVec 8) (timer : Timer)
  | abandoned (number : BitVec 8) (timer : Timer)
  deriving DecidableEq, Repr

/-- What the memory port keeps for one channel: its slot, a request waiting for an ABANDONED slot (R84, R124) and
its access number (R126). -/
structure MemSlot where
  slot : Slot
  need : Option Access
  number : BitVec 8
  deriving DecidableEq, Repr

/-! ### The staging store -/

/-- A word of the store with its check bit (R129). -/
structure StoreWord where
  data : Word
  check : Bool
  deriving DecidableEq, Repr

/-- What a word that the list does not name holds: 0 with an agreeing check bit, as initialisation leaves every word
(R130). -/
def StoreWord.blank : StoreWord := { data := 0, check := false }

/-- The store: word numbers strictly rising, no entry equal to `StoreWord.blank`. -/
abbrev Store := List (Nat × StoreWord)

/-- A host aperture access that the Guard has passed (R134). -/
structure HostRequest where
  domain : Dom
  word : StoreIndex
  access : HostAccess
  deriving DecidableEq, Repr

/-- The access in progress in the store (R132, R133); `wanted` is false once a reset has abandoned it (R84). -/
inductive Granted where
  | host (r : HostRequest)
  | channel (c : Chan) (a : Access) (wanted : Bool)
  deriving DecidableEq, Repr

/-! ### Records, logs -/

/-- The outcome codes of a record (R90). -/
inductive RunOutcome where
  | done
  | doneEarly
  | stopped
  | flushed
  | quiesced
  | attentionService
  | refused
  | noAnswer
  | notReady
  | memoryError
  | memoryTimeout
  | storeParity
  | guard
  | badDescriptor
  deriving DecidableEq, Repr

/-- The step codes of a record (R90). -/
inductive RunStep where
  | none
  | load
  | lead
  | turn
  | put
  | get
  | ask
  | close
  deriving DecidableEq, Repr

/-- The eight flags, in the order of R26. -/
structure Flags where
  statusPresent : Bool
  screenMatch : Bool
  closeUnanswered : Bool
  writebackFailed : Bool
  halted : Bool
  hailEnd : Bool
  stopAlso : Bool
  repsSaturated : Bool
  deriving DecidableEq, Repr

/-- Every flag clear. -/
def Flags.clear : Flags :=
  { statusPresent := false, screenMatch := false, closeUnanswered := false, writebackFailed := false,
    halted := false, hailEnd := false, stopAlso := false, repsSaturated := false }

/-- A completion record (section 5.1); VALID is supplied when it is presented (R88). -/
structure Record where
  outcome : RunOutcome
  flags : Flags
  channel : Chan
  screenIndex : Fin 8
  step : RunStep
  reps : BitVec 16
  tag : BitVec 16
  words : BitVec 16
  leadsDone : BitVec 3
  refusals : BitVec 8
  status : Word
  faultAddr : Word
  descriptor : Word
  deriving DecidableEq, Repr

/-- One completion log (R91, R94, R99). -/
structure Log where
  records : List Record
  threshold : BitVec 5
  waiting : List Chan
  deriving DecidableEq, Repr

/-! ### Channels -/

/-- The states of a channel (R39). -/
inductive ChState where
  | idle
  | loading
  | lead
  | turn
  | data
  | pacing
  | status
  | closing
  | writeback
  | logging
  | halted
  | servicing
  deriving DecidableEq, Repr

/-- The wait reasons of a channel (R40). -/
inductive Wait where
  | none
  | answer
  | ready
  | memory
  | store
  | log
  | pace
  deriving DecidableEq, Repr

/-- CH_STATUS.LAST_CMD (R86). -/
inductive ChCmdStatus where
  | none
  | accepted
  | ignored
  | deferred
  | rejectedPrivilege
  deriving DecidableEq, Repr

/-- The POST status (R34). -/
inductive PostStatus where
  | none
  | accepted
  | quiescing
  | domainChanging
  | misaligned
  | outOfWindow
  | queueFull
  deriving DecidableEq, Repr

/-- A queue entry (R31): the posted value, whose bit 0 is its space, and the poster domain. -/
structure QueueEntry where
  posted : Word
  poster : Dom
  deriving DecidableEq, Repr

/-- Words 0 to 4 of a run descriptor (R19). -/
structure Snapshot where
  w0 : Word
  w1 : Word
  w2 : Word
  w3 : Word
  w4 : Word
  deriving DecidableEq, Repr

/-- The context of the run or service in progress (section 3.1). -/
structure Run where
  poster : Dom
  snapshot : Snapshot
  descAddr : Word
  leadAddr : Word
  bufAddr : Word
  outcome : Option RunOutcome
  step : RunStep
  faultAddr : Word
  flags : Flags
  screenIndex : Fin 8
  leadsDone : BitVec 3
  refusals : BitVec 8
  status : Word
  position : Nat
  remaining : Nat
  inRepetition : Bool
  portUsed : Bool
  outWord : Option Word
  deriving DecidableEq, Repr

/-- No run: every item at its reset value (R65). -/
def Run.blank : Run :=
  { poster := 0, snapshot := { w0 := 0, w1 := 0, w2 := 0, w3 := 0, w4 := 0 }, descAddr := 0, leadAddr := 0,
    bufAddr := 0, outcome := none, step := .none, faultAddr := 0, flags := Flags.clear, screenIndex := 0,
    leadsDone := 0, refusals := 0, status := 0, position := 0, remaining := 0, inRepetition := false,
    portUsed := false, outWord := none }

/-- Where a channel goes from LOGGING when no record remains: to IDLE; to HALTED because the HALTED flag of what it
logged is set (R81, which latches the channel's event source); or back to HALTED after a FLUSHED record produced there
(R36, R161, which latches nothing). -/
inductive AfterLogging where
  | idle
  | halt
  | backToHalted
  deriving DecidableEq, Repr

/-- A channel engine with its part of the channel assignment table (section 3.1, R118, R155). -/
structure Channel where
  state : ChState
  armed : Bool
  stopPending : Bool
  lastCmd : ChCmdStatus
  postStatus : PostStatus
  queue : List QueueEntry
  flushCount : BitVec 8
  current : Word
  reps : BitVec 16
  words : BitVec 16
  run : Run
  readyTimer : Timer
  paceTimer : Timer
  held : Option Record
  afterLogging : AfterLogging
  domain : Dom
  pendingDomain : Option Dom
  detached : Bool
  detachPending : Bool
  answerTimeout : BitVec 12
  readyTimeout : BitVec 16
  autoAsk : Bool
  deriving DecidableEq, Repr

/-! ### Guard, Status Screen, Direct Path, Event Concentrator -/

/-- The windows of one tenant domain (R107). -/
structure Window where
  hostBase : BitVec 20
  hostSize : BitVec 16
  stageBase : BitVec 7
  stageSize : BitVec 8
  deriving DecidableEq, Repr

/-- The kinds of guard trap (R115). -/
inductive TrapKind where
  | registerAccess
  | commandPrivilege
  | descriptorRange
  | leadRange
  | bufferRange
  | apertureRange
  deriving DecidableEq, Repr

/-- A recorded violation (R115); channel NONE is `none`. -/
structure Trap where
  kind : TrapKind
  domain : Dom
  channel : Option Chan
  offending : Word
  extent : BitVec 16
  deriving DecidableEq, Repr

/-- A screen entry (R137). -/
structure ScreenEntry where
  valid : Bool
  action : BitVec 2
  channels : BitVec 8
  value : Word
  care : Word
  hits : BitVec 16
  deriving DecidableEq, Repr

/-- What SCR_LAST_HIT describes (R140). -/
structure Hit where
  channel : Chan
  entry : Fin 8
  deriving DecidableEq, Repr

/-- DIR_STATUS.RESULT (R148). -/
inductive DirResult where
  | idle
  | busy
  | doneAccept
  | doneRefuse
  | noAnswer
  | cancelled
  | rejectedBusy
  | rejectedQuiesce
  | rejectedKind
  deriving DecidableEq, Repr

/-- The direct slot (R148). -/
structure Direct where
  wordOut : Word
  wordIn : Word
  result : DirResult
  port : Chan
  kind : BitVec 3
  overrun : Bool
  deriving DecidableEq, Repr

/-- The Event Concentrator's own state: ten latches and three masks (R159, R166, R168). -/
structure Events where
  screen : Bool
  direct : Bool
  channels : Vector Bool 8
  enable : BitVec 16
  route : BitVec 32
  wakeEnable : BitVec 16
  deriving DecidableEq, Repr

/-! ### What the hub puts out -/

/-- What the hub puts out in a step (log entry 11): a transaction on a port (R1, R3); a CLEAR pulse (R10); a request
issued to host memory (R125, R126); the response to a host access that waited or returns data (R105, R114, R134). -/
inductive Output where
  | transaction (port : Chan) (kind : Kind) (seq : BitVec 8) (payload : Payload)
  | clear (port : Chan)
  | memoryRequest (channel : Chan) (number : BitVec 8) (access : Access)
  | hostResponse (domain : Dom) (data : Word) (busError : Bool)
  deriving DecidableEq, Repr

/-! ### The whole hub -/

/-- The state of the hub, with the queue of commands that wait and what the hub has put out so far. -/
structure State where
  hubState : HubState
  hubLastCmd : HubCmdStatus
  resetAsserted : Bool
  supplyWarn : Bool
  tickDivider : BitVec 12
  tickPeriod : Nat
  memTimeout : BitVec 10
  slots : Vector MemSlot 8
  servicePointer : Chan
  presented : Option Chan
  store : Store
  storeRequests : Vector (Option Access) 8
  hostWaiting : List HostRequest
  granted : Option Granted
  lastGranted : Chan
  hostRun : Fin 3
  windows : Vector Window 3
  trap : Option Trap
  lost : BitVec 8
  channels : Vector Channel 8
  ports : Vector Port 8
  logs : Vector Log 4
  screen : Vector ScreenEntry 8
  lastHit : Option Hit
  direct : Direct
  events : Events
  pending : List Instr
  outputs : List Output
  deriving DecidableEq, Repr

/-- Why a command would stop the machine. The GJC-8 spec gives every row of the table an effect, possibly none, in
every state, so no meaning raises a fault. -/
inductive Fault where
  /-- Raised by no meaning: it stands for a command to which the spec gives no effect at all, and there is none
  (safe). -/
  | noEffectGiven
  deriving DecidableEq, Repr

/-- Why a command would be refused. -/
inductive Refusal where
  /-- A row that has no meaning yet, by its mnemonic; raised by no arm (safe). -/
  | notModelled (mnemonic : String)
  deriving DecidableEq, Repr

/-! ### Reset values -/

/-- A memory-port slot after power-on reset (R135). -/
def MemSlot.reset : MemSlot := { slot := .empty, need := none, number := 0 }

/-- A channel after power-on reset (R38, R65, R87, R121, R158). -/
def Channel.reset : Channel :=
  { state := .idle, armed := false, stopPending := false, lastCmd := .none, postStatus := .none, queue := [],
    flushCount := 0, current := 0, reps := 0, words := 0, run := Run.blank, readyTimer := .stopped,
    paceTimer := .stopped, held := none, afterLogging := .idle, domain := 0, pendingDomain := none,
    detached := false, detachPending := false, answerTimeout := Config.answerTimeout,
    readyTimeout := Config.readyTimeout, autoAsk := false }

/-- A port controller after power-on reset (R18). DESIGN CHOICE: the partner's levels, which no reset sets, are
deasserted (log entry 7, unsafe). -/
def Port.reset : Port :=
  { outstanding := none, timer := .stopped, seq := 0, ready := false, hail := false, hailSeen := false,
    stray := false }

/-- A log after power-on reset (R102). -/
def Log.reset : Log := { records := [], threshold := Config.logThreshold, waiting := [] }

/-- A tenant's windows after power-on reset (R121). -/
def Window.reset : Window := { hostBase := 0, hostSize := 0, stageBase := 0, stageSize := 0 }

/-- A screen entry after power-on reset (R147). -/
def ScreenEntry.reset : ScreenEntry :=
  { valid := false, action := 0, channels := 0, value := 0, care := 0, hits := 0 }

/-- The direct slot after power-on reset (R158). -/
def Direct.reset : Direct :=
  { wordOut := 0, wordIn := 0, result := .idle, port := 0, kind := 0, overrun := false }

/-- The Event Concentrator after power-on reset (R170). -/
def Events.reset : Events :=
  { screen := false, direct := false, channels := Vector.replicate 8 false, enable := 0, route := 0,
    wakeEnable := 0 }

/-- The machine right after power-on reset, at the release of RESET: every item at its power-on value (section 11.8)
and the hub INITIALISING (R174). DESIGN CHOICE: SUPPLY_WARN, READY and HAIL, which are inputs, are deasserted (log
entry 7, unsafe). -/
def State.reset : State :=
  { hubState := .initialising, hubLastCmd := .none, resetAsserted := false, supplyWarn := false,
    tickDivider := Config.tickDivider, tickPeriod := 50, memTimeout := Config.memTimeout,
    slots := Vector.replicate 8 MemSlot.reset, servicePointer := 7, presented := none,
    store := [], storeRequests := Vector.replicate 8 none, hostWaiting := [], granted := none, lastGranted := 7,
    hostRun := 0, windows := Vector.replicate 3 Window.reset, trap := none, lost := 0,
    channels := Vector.replicate 8 Channel.reset, ports := Vector.replicate 8 Port.reset,
    logs := Vector.replicate 4 Log.reset, screen := Vector.replicate 8 ScreenEntry.reset, lastHit := none,
    direct := Direct.reset, events := Events.reset, pending := [], outputs := [] }

end Sys2Proof.Machine
end

