-- ==== Sys2Proof/Machine/Ops.lean ====
section
/-! DEFINITION. The named operations over the state: one way to read and one way to write each part of it, timers
(R172), the staging store (R129), and orders over channels. -/

namespace Sys2Proof.Machine

/-! ### Numbers -/

/-- A counter that saturates at its greatest value (00_scope.md, 4.1). -/
def satInc {n : Nat} (x : BitVec n) : BitVec n :=
  if x = BitVec.allOnes n then x else x + 1

/-- A sum that saturates at 255 (R35). -/
def satAdd8 (x : BitVec 8) (n : Nat) : BitVec 8 :=
  BitVec.ofNat 8 (min 255 (x.toNat + n))

/-- One bit of a word. -/
def flag (b : Bool) : BitVec 1 := BitVec.ofBool b

/-! ### Reading and writing the parts of the state -/

/-- The channel engine of channel `c`. -/
def State.ch (s : State) (c : Chan) : Channel := s.channels[c.val]

/-- The port controller of port `c`. -/
def State.port (s : State) (c : Chan) : Port := s.ports[c.val]

/-- What the memory port keeps for channel `c`. -/
def State.mem (s : State) (c : Chan) : MemSlot := s.slots[c.val]

/-- The request of channel `c` at the staging arbiter. -/
def State.storeReq (s : State) (c : Chan) : Option Access := s.storeRequests[c.val]

/-- The log of domain `d`. -/
def State.log (s : State) (d : Dom) : Log := s.logs[d.val]

/-- Changes the engine of channel `c`. -/
def State.modCh (s : State) (c : Chan) (f : Channel → Channel) : State :=
  { s with channels := s.channels.set c.val (f s.channels[c.val]) }

/-- Changes the run context of channel `c`. -/
def State.modRun (s : State) (c : Chan) (f : Run → Run) : State :=
  s.modCh c fun ch => { ch with run := f ch.run }

/-- Changes the flags of the run of channel `c`. -/
def State.modFlags (s : State) (c : Chan) (f : Flags → Flags) : State :=
  s.modRun c fun r => { r with flags := f r.flags }

/-- Changes the port controller of port `c`. -/
def State.modPort (s : State) (c : Chan) (f : Port → Port) : State :=
  { s with ports := s.ports.set c.val (f s.ports[c.val]) }

/-- Changes what the memory port keeps for channel `c`. -/
def State.modMem (s : State) (c : Chan) (f : MemSlot → MemSlot) : State :=
  { s with slots := s.slots.set c.val (f s.slots[c.val]) }

/-- Sets the arbiter request of channel `c`. -/
def State.setStoreReq (s : State) (c : Chan) (r : Option Access) : State :=
  { s with storeRequests := s.storeRequests.set c.val r }

/-- Changes the log of domain `d`. -/
def State.modLog (s : State) (d : Dom) (f : Log → Log) : State :=
  { s with logs := s.logs.set d.val (f s.logs[d.val]) }

/-- Puts out one more item. -/
def State.emit (s : State) (o : Output) : State := { s with outputs := s.outputs ++ [o] }

/-- Latches the event source CHc (R161). -/
def State.latchChannel (s : State) (c : Chan) : State :=
  { s with events := { s.events with channels := s.events.channels.set c.val true } }

/-- Latches the DIRECT event source (R160). -/
def State.latchDirect (s : State) : State := { s with events := { s.events with direct := true } }

/-! ### Orders over channels -/

/-- The channels in ascending order, the order of steps taken at one moment (R93, R116, R142). -/
def allChans : List Chan := [0, 1, 2, 3, 4, 5, 6, 7]

/-- One step for each channel, in ascending order. -/
def State.forChans (s : State) (f : Chan → State → State) : State :=
  allChans.foldl (fun s c => f c s) s

/-- The first channel with the property in the order that begins after `last`, ascending and wrapping from 7 to 0
(R125, R132). -/
def nextAfter (last : Chan) (p : Chan → Bool) : Option Chan :=
  [last + 1, last + 2, last + 3, last + 4, last + 5, last + 6, last + 7, last].find? p

/-! ### Timers (R172) -/

/-- A timer started with a count: 0 never expires. -/
def Timer.start (n : Nat) : Timer := if n = 0 then .unlimited else .running n

/-- A tick boundary: a running timer counts it and is due at its last one. -/
def Timer.tick : Timer → Timer
  | .running (n + 2) => .running (n + 1)
  | .running _ => .due
  | t => t

/-- The slot's memory response timer counts a tick boundary (R127). -/
def Slot.tick : Slot → Slot
  | .outstanding a k t => .outstanding a k t.tick
  | .abandoned k t => .abandoned k t.tick
  | x => x

/-! ### The staging store (R129) -/

/-- Whether the number of 1 bits of a word is odd. -/
def oddBits (w : Word) : Bool :=
  (List.range 32).foldl (fun p i => p ^^ w.getLsbD i) false

/-- A word with the check bit that agrees with it. -/
def StoreWord.agreeing (w : Word) : StoreWord := { data := w, check := oddBits w }

/-- A word with the check bit that disagrees with it. -/
def StoreWord.disagreeing (w : Word) : StoreWord := { data := w, check := !(oddBits w) }

/-- Whether a word and its check bit agree: their 1 bits together are even in number. -/
def StoreWord.agrees (x : StoreWord) : Bool := x.check == oddBits x.data

/-- The word at a number, with its check bit. -/
def Store.get : Store → Nat → StoreWord
  | [], _ => StoreWord.blank
  | (b, y) :: m, a => if a = b then y else Store.get m a

/-- Stores a word with its check bit, keeping the canonical form. -/
def Store.put : Store → Nat → StoreWord → Store
  | [], a, x => if x = StoreWord.blank then [] else [(a, x)]
  | (b, y) :: m, a, x =>
    if a < b then (if x = StoreWord.blank then (b, y) :: m else (a, x) :: (b, y) :: m)
    else if a = b then (if x = StoreWord.blank then m else (a, x) :: m)
    else (b, y) :: Store.put m a x

/-- Every number in the list is at least `lo`, the numbers rise strictly and lie in the store, and no entry is what an
unlisted word holds. -/
def Store.wfFrom : Nat → Store → Bool
  | _, [] => true
  | lo, (b, y) :: m => decide (lo ≤ b) && decide (b < Config.storeWords) && decide (y ≠ StoreWord.blank) && Store.wfFrom (b + 1) m

/-- The canonical form of the store. -/
def Store.wf (m : Store) : Bool := Store.wfFrom 0 m

/-- The store word number of a byte address in the store (R109); the store has 8192 words. -/
def storeIndex (addr : Word) : Nat := (addr.toNat / 4) % Config.storeWords

/-- The `n` words of the store from a byte address on, with their check bits (R122). -/
def Store.readWords (m : Store) (addr : Word) (n : Nat) : List StoreWord :=
  (List.range n).map fun i => m.get (storeIndex (addr + BitVec.ofNat 32 (4 * i)))

/-- Writes words to the store from a byte address on, each with an agreeing check bit (R129). -/
def Store.writeWords (m : Store) (addr : Word) : List Word → Store
  | [] => m
  | w :: ws => Store.writeWords (m.put (storeIndex addr) (StoreWord.agreeing w)) (addr + 4) ws

end Sys2Proof.Machine
end

