-- ==== Sys2Proof/Machine/Operands.lean ====
section
/-! DEFINITION. The operands of a run: the fields of the run descriptor (section 2.2), the spaces and addresses they
name, and the format check (R24). -/

namespace Sys2Proof.Machine

/-- A space bit: 0 HOST, 1 STAGING (R32). -/
def Space.ofBit (b : Bool) : Space := if b then .staging else .host

/-- The direction of the data phase (R20); `bad` is DIR 3, which fails the format check (R24). -/
inductive Dir where
  | none
  | output
  | input
  | bad
  deriving DecidableEq, Repr

/-! ### The fields of words 0 to 4 (section 2.2) -/

/-- LEADS, word 0 bits 2:0. -/
def Snapshot.leads (d : Snapshot) : BitVec 3 := d.w0.extractLsb' 0 3

/-- TURN, word 0 bit 3. -/
def Snapshot.turn (d : Snapshot) : Bool := d.w0.getLsbD 3

/-- DIR, word 0 bits 5:4. -/
def Snapshot.dir (d : Snapshot) : Dir :=
  match d.w0.getLsbD 5, d.w0.getLsbD 4 with
  | false, false => .none
  | false, true => .output
  | true, false => .input
  | true, true => .bad

/-- ASK, word 0 bit 6. -/
def Snapshot.ask (d : Snapshot) : Bool := d.w0.getLsbD 6

/-- LOOP, word 0 bit 7. -/
def Snapshot.loop (d : Snapshot) : Bool := d.w0.getLsbD 7

/-- TOLERATE, word 0 bit 8. -/
def Snapshot.tolerate (d : Snapshot) : Bool := d.w0.getLsbD 8

/-- LEAD_SPACE, word 0 bit 9. -/
def Snapshot.leadSpace (d : Snapshot) : Space := Space.ofBit (d.w0.getLsbD 9)

/-- DATA_SPACE, word 0 bit 10. -/
def Snapshot.dataSpace (d : Snapshot) : Space := Space.ofBit (d.w0.getLsbD 10)

/-- The unassigned bits 31:11 of word 0. -/
def Snapshot.unassigned (d : Snapshot) : BitVec 21 := d.w0.extractLsb' 11 21

/-- COUNT, word 1 bits 15:0. -/
def Snapshot.count (d : Snapshot) : BitVec 16 := d.w1.extractLsb' 0 16

/-- TAG, word 1 bits 31:16. -/
def Snapshot.tag (d : Snapshot) : BitVec 16 := d.w1.extractLsb' 16 16

/-- LEAD_ADDR, word 2. -/
def Snapshot.leadList (d : Snapshot) : Word := d.w2

/-- BUFFER_ADDR, word 3. -/
def Snapshot.buffer (d : Snapshot) : Word := d.w3

/-- LOOP_LIMIT, word 4 bits 15:0. -/
def Snapshot.loopLimit (d : Snapshot) : BitVec 16 := d.w4.extractLsb' 0 16

/-- PACE, word 4 bits 31:16. -/
def Snapshot.pace (d : Snapshot) : BitVec 16 := d.w4.extractLsb' 16 16

/-- DIR is OUT or IN: the run has a data phase. -/
def Snapshot.hasData (d : Snapshot) : Bool := d.dir == .output || d.dir == .input

/-- The snapshot that a five-word read gives (R45). -/
def Snapshot.ofWords (ws : List Word) : Snapshot :=
  { w0 := ws.getD 0 0, w1 := ws.getD 1 0, w2 := ws.getD 2 0, w3 := ws.getD 3 0, w4 := ws.getD 4 0 }

/-- Bits 1:0 are both 0 (R24). -/
def wordAligned (a : Word) : Bool := a.extractLsb' 0 2 == 0

/-- The format check (R24): no condition of its table holds. -/
def Snapshot.formatOk (d : Snapshot) : Bool :=
  decide (d.leads.toNat ≤ 4)
  && d.dir != .bad
  && !(d.hasData && d.count == 0)
  && !(d.dir == .none && d.count != 0)
  && !(d.dir == .none && d.loop)
  && !(d.dir == .none && d.turn)
  && d.unassigned == 0
  && !(d.leads != 0 && !(wordAligned d.leadList))
  && !(d.hasData && !(wordAligned d.buffer))

/-! ### The posted value (R31, R32) -/

/-- The descriptor's space, bit 0 of the posted value. -/
def postedSpace (v : Word) : Space := Space.ofBit (v.getLsbD 0)

/-- The descriptor's byte address, bits 31:1 with bit 0 taken as 0. -/
def postedAddr (v : Word) : Word := v &&& 0xFFFFFFFE

/-- Bits 4:1 of the posted value are all 0 (R32, check 3). -/
def postedAligned (v : Word) : Bool := v.extractLsb' 1 4 == 0

/-- An address with its space in bit 0, as FAULT_ADDR and OFFENDING show it (R72, R112, R114). -/
def withSpace (a : Word) (sp : Space) : Word :=
  match sp with
  | .host => a &&& 0xFFFFFFFE
  | .staging => a ||| 1

/-- The i-th word of a range that starts at an address: the address plus 4 i, modulo 2^32 (R109). -/
def wordAddr (a : Word) (i : Nat) : Word := a + BitVec.ofNat 32 (4 * i)

/-! ### Where the run in progress stands -/

/-- FAULT_ADDR of the lead word the run is at, as the poster sees it (R72). -/
def Run.leadFaultAddr (r : Run) : Word :=
  withSpace (wordAddr r.snapshot.leadList r.leadsDone.toNat) r.snapshot.leadSpace

/-- FAULT_ADDR of the buffer word the run is at, as the poster sees it (R72). -/
def Run.bufferFaultAddr (r : Run) : Word :=
  withSpace (wordAddr r.snapshot.buffer r.position) r.snapshot.dataSpace

/-- The step name of the data phase: PUT for OUT, GET for IN (R71). -/
def Run.dataStep (r : Run) : RunStep := if r.snapshot.dir == .output then .put else .get

/-- The word at the current position is the last of its repetition (R52). -/
def Run.atLast (r : Run) : Bool := r.position + 1 == r.snapshot.count.toNat

/-- The run is at a repetition boundary: the mark is clear and at least one repetition is complete (R52). -/
def atRepetitionBoundary (ch : Channel) : Bool := !ch.run.inRepetition && ch.reps != 0

end Sys2Proof.Machine
end

