-- ==== Sys2Proof/Machine/Flags.lean ====
section
/-! DEFINITION. Flags and codes: the FLAGS byte (R26), the codes of outcomes, steps, states and statuses, the words of
the write-back (section 2.2) and of a record (section 5.1), and the event sources (R159). -/

namespace Sys2Proof.Machine

/-! ### Codes -/

/-- Outcome codes (R90). -/
def RunOutcome.code : RunOutcome → BitVec 8
  | .done => 0
  | .doneEarly => 1
  | .stopped => 2
  | .flushed => 3
  | .quiesced => 4
  | .attentionService => 5
  | .refused => 8
  | .noAnswer => 9
  | .notReady => 10
  | .memoryError => 11
  | .memoryTimeout => 12
  | .storeParity => 13
  | .guard => 14
  | .badDescriptor => 15

/-- The outcomes 8 to 15 are faults (section 4.4). -/
def RunOutcome.isFault (o : RunOutcome) : Bool := decide (8 ≤ o.code.toNat)

/-- Step codes (R90). -/
def RunStep.code : RunStep → BitVec 3
  | .none => 0
  | .load => 1
  | .lead => 2
  | .turn => 3
  | .put => 4
  | .get => 5
  | .ask => 6
  | .close => 7

/-- Kind codes (R1). -/
def Kind.code : Kind → BitVec 3
  | .lead => 1
  | .turn => 2
  | .put => 3
  | .get => 4
  | .ask => 5
  | .close => 6

/-- The kind with a code; 0 and 7 are no kind (R1). -/
def kindOfCode (k : BitVec 3) : Option Kind :=
  match k.toNat with
  | 1 => some .lead
  | 2 => some .turn
  | 3 => some .put
  | 4 => some .get
  | 5 => some .ask
  | 6 => some .close
  | _ => none

/-- An ACCEPT of GET or ASK delivers a word; no other answer does (R1). -/
def Kind.deliversWord : Kind → Bool
  | .get | .ask => true
  | _ => false

/-- State codes (R39). -/
def ChState.code : ChState → BitVec 4
  | .idle => 0
  | .loading => 1
  | .lead => 2
  | .turn => 3
  | .data => 4
  | .pacing => 5
  | .status => 6
  | .closing => 7
  | .writeback => 8
  | .logging => 9
  | .halted => 10
  | .servicing => 11

/-- Wait codes (R40). -/
def Wait.code : Wait → BitVec 3
  | .none => 0
  | .answer => 1
  | .ready => 2
  | .memory => 3
  | .store => 4
  | .log => 5
  | .pace => 6

/-- LAST_CMD codes of a channel (R86). -/
def ChCmdStatus.code : ChCmdStatus → BitVec 3
  | .none => 0
  | .accepted => 1
  | .ignored => 2
  | .deferred => 3
  | .rejectedPrivilege => 4

/-- POST status codes (R34). -/
def PostStatus.code : PostStatus → BitVec 3
  | .none => 0
  | .accepted => 1
  | .quiescing => 2
  | .domainChanging => 3
  | .misaligned => 4
  | .outOfWindow => 5
  | .queueFull => 6

/-- Hub state codes (R173). -/
def HubState.code : HubState → BitVec 2
  | .initialising => 0
  | .operational => 1
  | .quiescing => 2
  | .quiesced => 3

/-- LAST_CMD codes of the hub (R173). -/
def HubCmdStatus.code : HubCmdStatus → BitVec 2
  | .none => 0
  | .accepted => 1
  | .ignored => 2
  | .rejected => 3

/-- RESULT codes (R148). -/
def DirResult.code : DirResult → BitVec 4
  | .idle => 0
  | .busy => 1
  | .doneAccept => 2
  | .doneRefuse => 3
  | .noAnswer => 4
  | .cancelled => 5
  | .rejectedBusy => 6
  | .rejectedQuiesce => 7
  | .rejectedKind => 8

/-- Trap kind codes (R115). -/
def TrapKind.code : TrapKind → BitVec 3
  | .registerAccess => 1
  | .commandPrivilege => 2
  | .descriptorRange => 3
  | .leadRange => 4
  | .bufferRange => 5
  | .apertureRange => 6

/-! ### The words of the write-back and of a record -/

/-- The FLAGS byte, STATUS_PRESENT in bit 0 (R26). -/
def Flags.byte (f : Flags) : BitVec 8 :=
  flag f.repsSaturated ++ flag f.stopAlso ++ flag f.hailEnd ++ flag f.halted ++ flag f.writebackFailed
    ++ flag f.closeUnanswered ++ flag f.screenMatch ++ flag f.statusPresent

/-- The code of a run's outcome; a run that has none yet reads as 0. -/
def Run.outcomeCode (r : Run) : BitVec 8 :=
  match r.outcome with
  | some o => o.code
  | none => 0

/-- The run's outcome is a fault (section 4.4). -/
def Run.faulted (r : Run) : Bool :=
  match r.outcome with
  | some o => o.isFault
  | none => false

/-- Word 5 of the write-back (section 2.2, R26); WRITEBACK_FAILED is never set in it. -/
def Run.word5 (r : Run) : Word :=
  r.refusals ++ (0 : BitVec 2) ++ BitVec.ofNat 3 r.screenIndex.val ++ r.leadsDone
    ++ ({ r.flags with writebackFailed := false } : Flags).byte ++ r.outcomeCode

/-- Word 6 of the write-back: WORDS in bits 15:0, REPS in bits 31:16 (section 2.2). -/
def Channel.word6 (ch : Channel) : Word := ch.reps ++ ch.words

/-- Word 7 of the write-back: the captured status word, or 0 (R30). -/
def Run.word7 (r : Run) : Word := if r.flags.statusPresent then r.status else 0

/-- Words 5, 6 and 7 of the write-back (R25). -/
def Channel.writebackWords (ch : Channel) : List Word := [ch.run.word5, ch.word6, ch.run.word7]

/-- Word k of a record as LOG_HEAD presents it, with VALID 1 in word 0 (section 5.1, R97). -/
def Record.word (r : Record) (k : Fin 6) : Word :=
  match k with
  | 0 => flag true ++ (0 : BitVec 6) ++ r.step.code ++ BitVec.ofNat 3 r.screenIndex.val
      ++ BitVec.ofNat 3 r.channel.val ++ r.flags.byte ++ r.outcome.code
  | 1 => r.tag ++ r.reps
  | 2 => r.refusals ++ (0 : BitVec 5) ++ r.leadsDone ++ r.words
  | 3 => r.status
  | 4 => r.faultAddr
  | 5 => r.descriptor

/-- The record of a run, formed from its final state (R61, R75, R76). -/
def Channel.runRecord (ch : Channel) (c : Chan) : Record :=
  { outcome := ch.run.outcome.getD .done, flags := ch.run.flags, channel := c, screenIndex := ch.run.screenIndex,
    step := ch.run.step, reps := ch.reps, tag := ch.run.snapshot.tag, words := ch.words,
    leadsDone := ch.run.leadsDone, refusals := ch.run.refusals, status := ch.run.word7,
    faultAddr := ch.run.faultAddr, descriptor := ch.current }

/-- A FLUSHED record for a count of discarded runs (R37). -/
def flushedRecord (c : Chan) (count : BitVec 8) : Record :=
  { outcome := .flushed, flags := { Flags.clear with repsSaturated := count == 255 }, channel := c,
    screenIndex := 0, step := .none, reps := count.setWidth 16, tag := 0, words := 0, leadsDone := 0,
    refusals := 0, status := 0, faultAddr := 0, descriptor := 0 }

/-- The record of an attention service (R145). -/
def serviceRecord (c : Chan) (o : RunOutcome) (step : RunStep) (f : Flags) (index : Fin 8) (status : Word) : Record :=
  { outcome := o, flags := f, channel := c, screenIndex := index, step := step, reps := 0, tag := 0, words := 0,
    leadsDone := 0, refusals := 0, status := status, faultAddr := 0, descriptor := 0 }

/-! ### Event sources (R159 to R169) -/

/-- The level source LOGd: the threshold is not 0 and COUNT is at least the threshold (R100). -/
def Log.source (l : Log) : Bool := l.threshold != 0 && decide (l.threshold.toNat ≤ l.records.length)

/-- The sixteen sources, source n in bit n (R159, R165). -/
def State.sources (s : State) : BitVec 16 :=
  let v := s.events.channels
  flag v[7] ++ flag v[6] ++ flag v[5] ++ flag v[4] ++ flag v[3] ++ flag v[2] ++ flag v[1] ++ flag v[0]
    ++ flag (s.log 3).source ++ flag (s.log 2).source ++ flag (s.log 1).source ++ flag (s.log 0).source
    ++ flag s.events.direct ++ flag s.events.screen ++ flag (s.hubState == .quiesced) ++ flag s.trap.isSome

/-- The two-bit routing field of source n (R166). -/
def Events.routeOf (e : Events) (n : Nat) : BitVec 2 := e.route.extractLsb' (2 * n) 2

/-- Source n is pending, enabled and routed to the line: 1 ALERT, 2 NOTICE (R167). -/
def State.drives (s : State) (line : BitVec 2) (n : Nat) : Bool :=
  s.sources.getLsbD n && s.events.enable.getLsbD n && s.events.routeOf n == line

/-- The lowest-numbered source that drives the line (R169). -/
def State.driver (s : State) (line : BitVec 2) : Option Nat := (List.range 16).find? (s.drives line)

/-- The ALERT line (R167). -/
def State.alert (s : State) : Bool := (s.driver 1).isSome

/-- The NOTICE line (R167). -/
def State.notice (s : State) : Bool := (s.driver 2).isSome

/-- The WAKE line (R168). -/
def State.wake (s : State) : Bool := s.sources &&& s.events.wakeEnable != 0

/-- The QUIET output (R180). -/
def State.quiet (s : State) : Bool := s.hubState == .quiesced

/-- An identify register: the source in bits 3:0 with VALID in bit 31, or 0 (R169). -/
def identWord (o : Option Nat) : Word :=
  match o with
  | some n => flag true ++ (0 : BitVec 27) ++ BitVec.ofNat 4 n
  | none => 0

end Sys2Proof.Machine
end

