-- ==== Sys2Proof/Machine/Guard.lean ====
section
/-! DEFINITION. The Guard: permission (R103, R104), windows, translation and range checks (R107 to R110), and the trap
slot (R115, R116). -/

namespace Sys2Proof.Machine

/-! ### Permission -/

/-- Whether R104 grants the offset to the domain. -/
def State.grants (s : State) (d : Dom) (off : Offset) : Bool :=
  d == 0
  || decide (off.toNat < 4)
  || (groupChannel off).any (fun c => (s.ch c).domain == d)
  || windowLog off == some d

/-- What the Guard makes of a 32-bit aligned access to the control window (R103, steps 2 to 4). -/
inductive Verdict where
  | initialising
  | violation
  | permitted
  deriving DecidableEq, Repr

/-- The Guard's decision on a 32-bit aligned access to the control window (R103). -/
def State.verdict (s : State) (d : Dom) (off : Offset) : Verdict :=
  if s.hubState = .initialising then .initialising
  else if s.grants d off then .permitted
  else .violation

/-! ### The trap slot -/

/-- A violation fills the empty slot or is counted in LOST (R116). -/
def State.recordTrap (s : State) (t : Trap) : State :=
  match s.trap with
  | none => { s with trap := some t, lost := 0 }
  | some _ => { s with lost := satInc s.lost }

/-- The trap of a register access violation (R105, R115). -/
def registerTrap (d : Dom) (off : Offset) : Trap :=
  { kind := .registerAccess, domain := d, channel := groupChannel off, offending := off.setWidth 32, extent := 0 }

/-- The trap of a DETACH or ATTACH written by the owning tenant (R106, R115). -/
def privilegeTrap (d : Dom) (c : Chan) : Trap :=
  { kind := .commandPrivilege, domain := d, channel := some c,
    offending := (Reg.offset (.ch c .command)).setWidth 32, extent := 0 }

/-- A host write that passes the Guard reaches its block; one that violates records a trap; during INITIALISING it is
ignored (R103, R105). -/
def State.guarded (s : State) (d : Dom) (off : Offset) (act : State → State) : State :=
  match s.verdict d off with
  | .initialising => s
  | .violation => s.recordTrap (registerTrap d off)
  | .permitted => act s

/-! ### Windows, translation and range checks -/

/-- The windows of a tenant domain; domain 0 has none (R107). -/
def State.window (s : State) (d : Dom) : Option Window :=
  match d with
  | 0 => none
  | 1 => some s.windows[0]
  | 2 => some s.windows[1]
  | 3 => some s.windows[2]

/-- The effective size of the host window, in pages (R108). -/
def Window.hostPages (w : Window) : Nat := min w.hostSize.toNat (Config.hostPages - w.hostBase.toNat)

/-- The effective size of the staging window, in units of 64 words (R108). -/
def Window.stageUnits (w : Window) : Nat := min w.stageSize.toNat (Config.stageUnits - w.stageBase.toNat)

/-- The number of bytes the domain may use in the space, from its own address 0 on; none where there is no bound
(R110). -/
def State.limit (s : State) (d : Dom) (sp : Space) : Option Nat :=
  match s.window d, sp with
  | none, .host => none
  | none, .staging => some Config.storeBytes
  | some w, .host => some (w.hostPages * 4096)
  | some w, .staging => some (w.stageUnits * 256)

/-- The range check of `n` words from the address, with the sum computed exactly (R110). -/
def State.rangeOk (s : State) (d : Dom) (sp : Space) (a : Word) (n : Nat) : Bool :=
  match s.limit d sp with
  | none => true
  | some bytes => decide (a.toNat + 4 * n ≤ bytes)

/-- The translated byte address (R109). -/
def State.translate (s : State) (d : Dom) (sp : Space) (a : Word) : Word :=
  match s.window d, sp with
  | none, _ => a
  | some w, .host => BitVec.ofNat 32 (w.hostBase.toNat * 4096) + a
  | some w, .staging => BitVec.ofNat 32 (w.stageBase.toNat * 256) + a

end Sys2Proof.Machine
end

