-- ==== Sys2Proof/Machine/Link.lean ====
section
/-! DEFINITION. The port controllers: sending a transaction (R3), matching an answer (R4) and the CLEAR pulse (R10). -/

namespace Sys2Proof.Machine

/-- A port controller is asked to send (R3, R6): in LINK_IDLE it records the transaction with the sequence count, starts
the answer timer with the channel's ANSWER_TIMEOUT, sends, and advances the count; otherwise it takes no action. -/
def State.send (s : State) (c : Chan) (issuer : Issuer) (kind : Kind) (payload : Payload) : State :=
  match (s.port c).outstanding with
  | some _ => s
  | none =>
    (s.modPort c fun p =>
      { p with outstanding := some { kind := kind, seq := p.seq, issuer := issuer },
               timer := Timer.start (s.ch c).answerTimeout.toNat, seq := p.seq + 1 }).emit
      (.transaction c kind (s.port c).seq payload)

/-- The port's transaction ends: the timer stops and the controller enters LINK_IDLE (R5, R8, R10). -/
def State.endTransaction (s : State) (c : Chan) : State :=
  s.modPort c fun p => { p with outstanding := none, timer := .stopped }

/-- The port controller pulses CLEAR, which abandons any transaction outstanding (R10). -/
def State.pulseClear (s : State) (c : Chan) : State := (s.endTransaction c).emit (.clear c)

/-- Whether an answer matches the transaction outstanding (R4). -/
def Transaction.matchedBy (t : Transaction) (code : AnswerCode) (kind : BitVec 3) (seq : BitVec 8) (word : Option Word) :
    Bool :=
  kind == t.kind.code && seq == t.seq && !(code == .accept && t.kind.deliversWord && word.isNone)

/-- The result that a port controller delivers to the issuer (R5, R8). An ACCEPT of a kind that delivers no word carries
0 (R4: a surplus word is discarded). -/
inductive LinkResult where
  | accept (word : Word)
  | refuse
  | noAnswer
  deriving DecidableEq, Repr

/-- The result of a matching answer (R5). -/
def Transaction.resultOf (t : Transaction) (code : AnswerCode) (word : Option Word) : LinkResult :=
  match code with
  | .accept => .accept (if t.kind.deliversWord then word.getD 0 else 0)
  | .refuse => .refuse

/-- A transaction of the direct path is outstanding on the port (R43, R143). -/
def State.directOnPort (s : State) (c : Chan) : Bool :=
  match (s.port c).outstanding with
  | some t => t.issuer == .direct
  | none => false

/-- A transaction the channel itself sent is outstanding on its port (R40, R66). -/
def State.channelOnPort (s : State) (c : Chan) : Bool :=
  match (s.port c).outstanding with
  | some t => t.issuer == .channel
  | none => false

end Sys2Proof.Machine
end

