-- ==== Sys2Proof/Machine/Memory.lean ====
section
/-! DEFINITION. The memory port (R123 to R128) and the staging arbiter (R131 to R134). -/

namespace Sys2Proof.Machine

/-! ### A channel's request -/

/-- The slot takes a request when it is EMPTY; otherwise the request waits for it (R84, R124). -/
def MemSlot.request (m : MemSlot) (a : Access) : MemSlot :=
  match m.slot with
  | .empty => { m with slot := .requested a }
  | _ => { m with need := some a }

/-- The slot becomes EMPTY, and a request that waited for it becomes REQUESTED at once (R124, R128). -/
def MemSlot.free (m : MemSlot) : MemSlot :=
  match m.need with
  | none => { m with slot := .empty }
  | some a => { m with slot := .requested a, need := none }

/-- The effect of RESET_CHANNEL and HUB_RESET on a slot (R128): a request is withdrawn, an issued access is abandoned
with its timer running. -/
def MemSlot.abandon (m : MemSlot) : MemSlot :=
  match m.slot with
  | .empty => { m with need := none }
  | .requested _ => { m with slot := .empty, need := none }
  | .outstanding _ k t => { m with slot := .abandoned k t, need := none }
  | .abandoned k t => { m with slot := .abandoned k t, need := none }

/-- The slot is REQUESTED. -/
def MemSlot.isRequested (m : MemSlot) : Bool :=
  match m.slot with
  | .requested _ => true
  | _ => false

/-- The slot is REQUESTED or OUTSTANDING (R123). -/
def Slot.claimed (x : Slot) : Bool :=
  match x with
  | .requested _ => true
  | .outstanding _ _ _ => true
  | .empty | .abandoned _ _ => false

/-- CH_STATUS.WAIT shows MEMORY (R123): the slot is REQUESTED or OUTSTANDING, or a request waits for the slot. -/
def MemSlot.waits (m : MemSlot) : Bool := m.need.isSome || m.slot.claimed

/-- A channel asks for an access in a space (R122). -/
def State.request (s : State) (c : Chan) (sp : Space) (a : Access) : State :=
  match sp with
  | .host => s.modMem c (fun m => m.request a)
  | .staging => s.setStoreReq c (some a)

/-! ### Presenting requests (R125) -/

/-- When the port is free to present and a slot is REQUESTED, the first REQUESTED channel after the service pointer is
presented. A presented request stays presented until it is taken or withdrawn (R125, R128). -/
def State.present (s : State) : State :=
  match s.presented with
  | some c => if (s.mem c).isRequested then s
      else { s with presented := nextAfter s.servicePointer fun c => (s.mem c).isRequested }
  | none => { s with presented := nextAfter s.servicePointer fun c => (s.mem c).isRequested }

/-! ### The staging arbiter (R131, R132) -/

/-- Some channel waits at the arbiter. -/
def State.channelWaits (s : State) : Bool := allChans.any fun c => (s.storeReq c).isSome

/-- The arbiter grants the host its oldest access, with the new host run length. -/
def State.grantHost (s : State) (run : Fin 3) : State :=
  match s.hostWaiting with
  | [] => s
  | r :: rest => { s with granted := some (.host r), hostWaiting := rest, hostRun := run }

/-- The arbiter grants the first waiting channel after the last channel granted. -/
def State.grantChannel (s : State) : State :=
  match nextAfter s.lastGranted fun c => (s.storeReq c).isSome with
  | none => s
  | some c =>
    match s.storeReq c with
    | none => s
    | some a => { s.setStoreReq c none with granted := some (.channel c a true), lastGranted := c, hostRun := 0 }

/-- When the store is free and a request waits, exactly one is granted, by the first row of R132's table that
applies. Requests that arrive at one moment are all waiting before this choice: `State.moment` puts it off until they have
(log entry 28). -/
def State.grant (s : State) : State :=
  match s.granted with
  | some _ => s
  | none =>
    if s.hostWaiting ≠ [] ∧ s.channelWaits = false then s.grantHost 0
    else if s.hostWaiting ≠ [] ∧ s.hostRun < 2 then s.grantHost (s.hostRun + 1)
    else s.grantChannel

/-- The granted access of the channel is abandoned: it completes, and its result is discarded (R84, R133). -/
def Granted.abandonFor (g : Granted) (c : Chan) : Granted :=
  match g with
  | .channel c' a w => .channel c' a (w && c' != c)
  | g => g

/-- The granted access is the channel's own and still wanted (R40). -/
def State.storeGrantedTo (s : State) (c : Chan) : Bool :=
  match s.granted with
  | some (.channel c' _ w) => w && c' == c
  | _ => false

/-- The channel has a staging-store access requested or outstanding (R40). -/
def State.storeWaits (s : State) (c : Chan) : Bool := (s.storeReq c).isSome || s.storeGrantedTo c

/-- What an access hands to the channel (R127, R133): the words of a read (none for a write), or the failure. -/
inductive AccessResult where
  | ok (ws : List Word)
  | failed (o : RunOutcome)
  deriving DecidableEq, Repr

/-- The result of a completed memory access (R127). -/
def Access.memoryResult (a : Access) (r : MemResponse) : AccessResult :=
  match a.body with
  | .read n => if (List.range n).any (fun i => r.error.getLsbD i) then .failed .memoryError
      else .ok ([r.w0, r.w1, r.w2, r.w3, r.w4].take n)
  | .write _ => if r.error.getLsbD 0 then .failed .memoryError else .ok []

/-- The result of a completed store access (R133): a read fails whole with STORE_PARITY if any word disagrees. -/
def Access.storeResult (a : Access) (m : Store) : AccessResult :=
  match a.body with
  | .read n =>
    if (m.readWords a.addr n).all StoreWord.agrees then .ok ((m.readWords a.addr n).map StoreWord.data)
    else .failed .storeParity
  | .write _ => .ok []

/-- What a completed access leaves in the store (R129). -/
def Access.storeEffect (a : Access) (m : Store) : Store :=
  match a.body with
  | .read _ => m
  | .write ws => m.writeWords a.addr ws

end Sys2Proof.Machine
end

