-- ==== Sys2Proof/Machine/Logs.lean ====
section
/-! DEFINITION. The completion logs: offering, accepting and holding records (R92 to R96), FLUSHED records (R36) and
the way out of LOGGING (R62, R81). -/

namespace Sys2Proof.Machine

/-- The log holds fewer than 16 records (R92). -/
def Log.hasRoom (l : Log) : Bool := decide (l.records.length < Config.logDepth)

/-- The record becomes the log's new tail (R91). -/
def Log.append (l : Log) (r : Record) : Log := { l with records := l.records ++ [r] }

/-- The channel leaves LOGGING when no record remains to offer (R36, R62, R81): for IDLE; for HALTED, latching its event
source; or back to the HALTED it left only to produce a FLUSHED record. -/
def State.leaveLogging (s : State) (c : Chan) : State :=
  match (s.ch c).afterLogging with
  | .idle => s.modCh c fun ch => { ch with state := .idle, held := none }
  | .halt => (s.modCh c fun ch => { ch with state := .halted, held := none }).latchChannel c
  | .backToHalted => s.modCh c fun ch => { ch with state := .halted, held := none }

/-- The log of domain `d` refuses the offer: the channel holds the record in LOGGING and joins the tail of the waiting
list (R92). -/
def State.holdRecord (s : State) (c : Chan) (d : Dom) (r : Record) : State :=
  (s.modCh c fun ch => { ch with state := .logging, held := some r }).modLog d
    fun l => { l with waiting := l.waiting ++ [c] }

/-- A FLUSHED record is offered to the log of the channel's domain (R36, R92); its pending flush count is 0 by then. -/
def State.offerFlushed (s : State) (c : Chan) (r : Record) : State :=
  let d := (s.ch c).domain
  if (s.log d).hasRoom then (s.modLog d fun l => l.append r).leaveLogging c
  else s.holdRecord c d r

/-- The pending flush count becomes a FLUSHED record, which is offered at once, and the count becomes 0 (R36, R37). -/
def State.produceFlushed (s : State) (c : Chan) : State :=
  (s.modCh c fun ch => { ch with flushCount := 0 }).offerFlushed c (flushedRecord c (s.ch c).flushCount)

/-- What follows the acceptance of a channel's record (R36, R92): a FLUSHED record if the pending flush count is not 0,
and otherwise the way out of LOGGING. -/
def State.afterAccepted (s : State) (c : Chan) : State :=
  if (s.ch c).flushCount = 0 then s.leaveLogging c
  else (s.modCh c fun ch => { ch with state := .logging, held := none }).produceFlushed c

/-- The record of a run or a service is offered to the log of the channel's domain at that moment (R62, R92). -/
def State.offer (s : State) (c : Chan) (r : Record) : State :=
  let d := (s.ch c).domain
  if (s.log d).hasRoom then (s.modLog d fun l => l.append r).afterAccepted c
  else s.holdRecord c d r

/-- The channel enters LOGGING with a record formed whole (R61, R88); the run or service is over. -/
def State.logRecord (s : State) (c : Chan) (r : Record) : State :=
  (s.modCh c fun ch =>
    { ch with state := .logging, run := Run.blank,
              afterLogging := if r.flags.halted then .halt else .idle }).offer c r

/-- A run enters LOGGING with the record of its final state (R61). -/
def State.logRun (s : State) (c : Chan) : State := s.logRecord c ((s.ch c).runRecord c)

/-- A LOG_POP (R95): the head record is removed, and the record held by the channel at the head of the waiting list is
admitted; on an empty log nothing happens. -/
def State.popLog (s : State) (d : Dom) : State :=
  match (s.log d).records with
  | [] => s
  | _ :: rest =>
    match (s.log d).waiting with
    | [] => s.modLog d fun l => { l with records := rest }
    | c :: others =>
      match (s.ch c).held with
      | none => s.modLog d fun l => { l with records := rest, waiting := others }
      | some r =>
        ((s.modLog d fun l => { l with records := rest ++ [r], waiting := others }).modCh c
          fun ch => { ch with held := none }).afterAccepted c

/-- The channel leaves every waiting list, the others keeping their order (R83, R94). -/
def State.leaveWaiting (s : State) (c : Chan) : State :=
  { s with logs := s.logs.map fun l => { l with waiting := l.waiting.filter (· ≠ c) } }

end Sys2Proof.Machine
end

