-- ==== Sys2Proof/Machine/Screen.lean ====
section
/-! DEFINITION. The Status Screen: matching (R138) and the action of the matching entry (R139 to R141). -/

namespace Sys2Proof.Machine

/-- A status word captured by a channel matches an entry (R138). -/
def ScreenEntry.matches (e : ScreenEntry) (c : Chan) (w : Word) : Bool :=
  e.valid && e.channels.getLsbD c.val && (w ^^^ e.value) &&& e.care == 0

/-- The entry that acts on the word: the lowest-numbered that matches (R138). -/
def State.actingEntry (s : State) (c : Chan) (w : Word) : Option (Fin 8) :=
  allChans.find? fun k => (s.screen[k.val]).matches c w

/-- What the acting entry does outside the channel (R139, R140): its HITS increases, and an EVENT latches SCREEN and
writes SCR_LAST_HIT. -/
def State.entryActs (s : State) (c : Chan) (k : Fin 8) : State :=
  let e := s.screen[k.val]
  let s1 := { s with screen := s.screen.set k.val { e with hits := satInc e.hits } }
  if e.action = 1 then
    { s1 with events := { s1.events with screen := true }, lastHit := some { channel := c, entry := k } }
  else s1

/-- The flags of the run or service after the screening of its word (R139, R141): SCREEN_MATCH, and HALTED for a HALT. -/
def Flags.screened (f : Flags) (halt : Bool) : Flags :=
  { f with screenMatch := true, halted := f.halted || halt }

/-- A channel captures a status word, which is screened in the same step (R58, R142, R145). -/
def State.capture (s : State) (c : Chan) (w : Word) : State :=
  let s1 := s.modRun c fun r => { r with status := w, flags := { r.flags with statusPresent := true } }
  match s.actingEntry c w with
  | none => s1
  | some k =>
    (s1.entryActs c k).modRun c fun r =>
      { r with screenIndex := k, flags := r.flags.screened (s.screen[k.val].action == 2) }

end Sys2Proof.Machine
end

