-- ==== Sys2Proof/Machine/Engine.lean ====
section
/-! DEFINITION. The channel engine: the course of a run (chapter 3), its endings (chapter 4) and attention service
(section 8.5). The definitions stand from the end of a run to its beginning, as each leads to the one before it. -/

namespace Sys2Proof.Machine

/-! ### Waiting and settling -/

/-- CH_STATUS.WAIT (R40), computed from what the channel has outstanding. -/
def State.wait (s : State) (c : Chan) : Wait :=
  match (s.ch c).state with
  | .idle | .halted => .none
  | .logging => if (s.ch c).held.isSome then .log else .none
  | .pacing => .pace
  | .data =>
    if s.channelOnPort c then .answer
    else if (s.mem c).waits then .memory
    else if s.storeWaits c then .store
    else .ready
  | _ =>
    if s.channelOnPort c then .answer
    else if (s.mem c).waits then .memory
    else if s.storeWaits c then .store
    else .none

/-- The channel is settled (R180): IDLE, HALTED, or holding a record its log has refused. -/
def State.settled (s : State) (c : Chan) : Bool :=
  match (s.ch c).state with
  | .idle | .halted => true
  | .logging => (s.ch c).held.isSome
  | _ => false

/-- The channel is empty (R118): IDLE or HALTED, no queue entry, no record held. -/
def Channel.empty (ch : Channel) : Bool :=
  (ch.state == .idle || ch.state == .halted) && ch.queue.isEmpty && ch.held.isNone

/-- The states in which STOP sets the stop-pending mark (R67). -/
def ChState.stoppable : ChState → Bool
  | .loading | .lead | .turn | .data | .pacing | .status => true
  | _ => false

/-! ### Write-back and close -/

/-- The space of the run's descriptor (R31, R45). -/
def Channel.descSpace (ch : Channel) : Space := postedSpace ch.current

/-- The channel enters WRITEBACK and asks for the three-word write of words 5 to 7 (R25, R60). -/
def State.enterWriteback (s : State) (c : Chan) : State :=
  let ch := s.ch c
  (s.modCh c fun ch => { ch with state := .writeback }).request c ch.descSpace
    { addr := wordAddr ch.run.descAddr 5, body := .write ch.writebackWords }

/-- The channel sends a transaction as part of a run, which sets the port-used mark (R47). -/
def State.runSend (s : State) (c : Chan) (kind : Kind) (payload : Payload) : State :=
  (s.modRun c fun r => { r with portUsed := true }).send c .channel kind payload

/-- The channel enters CLOSING: it sends a CLOSE if the port-used mark is set, and otherwise goes straight to WRITEBACK
(R59, R70, R73). -/
def State.enterClosing (s : State) (c : Chan) (code : CloseCode) : State :=
  let s1 := s.modCh c fun ch => { ch with state := .closing }
  if (s.ch c).run.portUsed then s1.runSend c .close (.close code) else s1.enterWriteback c

/-! ### Endings that are not DONE -/

/-- What every early ending does at once: the stop-pending mark is cleared, the ready and pace timers stop, and a word
read for a PUT is discarded (R70, R73). -/
def Channel.endEarly (ch : Channel) : Channel :=
  { ch with stopPending := false, readyTimer := .stopped, paceTimer := .stopped, run := { ch.run with outWord := none } }

/-- The stop ending and the quiesce ending (R70). -/
def State.stopEnding (s : State) (c : Chan) (o : RunOutcome) : State :=
  ((s.modCh c Channel.endEarly).modRun c fun r => { r with outcome := some o }).enterClosing c .abort

/-- A fault arises (R71, R76, R80): it becomes the outcome with its step and address, HALTED is set, and STOP_ALSO if a
STOP was pending. -/
def State.setFault (s : State) (c : Chan) (o : RunOutcome) (step : RunStep) (addr : Word) : State :=
  let stop := (s.ch c).stopPending
  (s.modCh c Channel.endEarly).modRun c fun r =>
    { r with outcome := some o, step := step, faultAddr := addr,
             flags := { r.flags with halted := true, stopAlso := r.flags.stopAlso || stop } }

/-- The abort sequence with a CLOSE (R73). -/
def State.faultAbort (s : State) (c : Chan) (o : RunOutcome) (step : RunStep) (addr : Word) : State :=
  (s.setFault c o step addr).enterClosing c .abort

/-- The abort sequence after NO_ANSWER: CLEAR at once, no CLOSE (R74). -/
def State.faultNoAnswer (s : State) (c : Chan) (step : RunStep) : State :=
  ((s.setFault c .noAnswer step 0).pulseClear c).enterWriteback c

/-- A fault in LOADING after the descriptor was read: the write-back is made (R75). -/
def State.faultLoaded (s : State) (c : Chan) (o : RunOutcome) (addr : Word) : State :=
  (s.setFault c o .load addr).enterWriteback c

/-- A fault in LOADING before the snapshot: no write-back (R75). -/
def State.faultUnloaded (s : State) (c : Chan) (o : RunOutcome) (addr : Word) : State :=
  (s.setFault c o .load addr).logRun c

/-- The run's CLOSE ends NO_ANSWER (R78): CLEAR, CLOSE_UNANSWERED, and the fault NO_ANSWER unless a fault stands. -/
def State.closeUnanswered (s : State) (c : Chan) : State :=
  let s1 := (s.pulseClear c).modFlags c fun f => { f with closeUnanswered := true }
  if (s.ch c).run.faulted then s1.enterWriteback c
  else
    (s1.modRun c fun r =>
      { r with outcome := some .noAnswer, step := .close, faultAddr := 0,
               flags := { r.flags with halted := true,
                                       stopAlso := r.flags.stopAlso || r.outcome == some .stopped } }).enterWriteback c

/-! ### Boundaries -/

/-- A run examines STOP and quiesce at a transaction boundary, STOP first, and goes on if it finds neither (R41). -/
def State.boundary (s : State) (c : Chan) (go : State → State) : State :=
  if (s.ch c).stopPending then s.stopEnding c .stopped
  else if s.hubState = .quiescing then s.stopEnding c .quiesced
  else go s

/-! ### The status phase -/

/-- The channel enters STATUS and, finding neither STOP nor quiesce, sends one ASK (R58). -/
def State.enterStatus (s : State) (c : Chan) : State :=
  (s.modCh c fun ch => { ch with state := .status }).boundary c fun s => s.runSend c .ask .none

/-- After the ASK only STOP is examined; otherwise the run closes NORMAL (R58, R69). -/
def State.afterAsk (s : State) (c : Chan) : State :=
  if (s.ch c).stopPending then s.stopEnding c .stopped else s.enterClosing c .normal

/-- The earlier phases have ended DONE or DONE_EARLY: STATUS if ASK is 1, and otherwise CLOSING (R57). -/
def State.afterPhases (s : State) (c : Chan) : State :=
  if (s.ch c).run.snapshot.ask then s.enterStatus c else s.enterClosing c .normal

/-! ### The data phase -/

/-- The data phase ends normally (R57). -/
def State.endData (s : State) (c : Chan) : State :=
  (s.modRun c fun r => { r with outcome := some .done }).afterPhases c

/-- The data phase ends by HAIL (R54). -/
def State.hailEnding (s : State) (c : Chan) : State :=
  let boundary := atRepetitionBoundary (s.ch c)
  (((s.modPort c fun p => { p with hailSeen := true }).modCh c fun ch =>
      { ch with readyTimer := .stopped, paceTimer := .stopped }).modRun c fun r =>
    { r with outWord := none, outcome := some (if boundary then .done else .doneEarly),
             flags := { r.flags with hailEnd := boundary } }).afterPhases c

/-- A repetition is begun as its first PUT or GET is sent (R27, R28, R52). -/
def Channel.beginRepetition (ch : Channel) : Channel :=
  if ch.run.inRepetition then ch
  else
    { ch with
      reps := satInc ch.reps, words := 0,
      run := { ch.run with
        inRepetition := true,
        flags := { ch.run.flags with
          repsSaturated := ch.run.flags.repsSaturated || ch.reps == BitVec.allOnes 16 } } }

/-- Line 4 of R51: the PUT or GET is sent with its LAST mark (R52, R53). -/
def State.sendWord (s : State) (c : Chan) : State :=
  let r := (s.ch c).run
  let s1 := s.modCh c fun ch =>
    { ch.beginRepetition with
      readyTimer := .stopped, run := { ch.beginRepetition.run with outWord := none } }
  if r.snapshot.dir = .output then s1.runSend c .put (.data (r.outWord.getD 0) r.atLast)
  else s1.runSend c .get (.mark r.atLast)

/-- Line 5 of R51: the channel waits for READY, the ready timer starting when the line first decides (R64). -/
def State.waitReady (s : State) (c : Chan) : State :=
  s.modCh c fun ch =>
    if ch.readyTimer = .stopped then { ch with readyTimer := Timer.start ch.readyTimeout.toNat } else ch

/-- A data decision point: the first line of R51 that holds decides. -/
def State.decide (s : State) (c : Chan) : State :=
  s.boundary c fun s =>
    if (s.port c).hail then s.hailEnding c
    else if (s.port c).ready then s.sendWord c
    else s.waitReady c

/-- The channel comes to the next word: OUT reads it first (R53), IN stands at its decision point. -/
def State.nextWord (s : State) (c : Chan) : State :=
  let r := (s.ch c).run
  if r.snapshot.dir = .output then
    s.request c r.snapshot.dataSpace { addr := wordAddr r.bufAddr r.position, body := .read 1 }
  else s.decide c

/-- A repetition is made ready: position 0, remaining count COUNT (R52). -/
def State.startRepetition (s : State) (c : Chan) : State :=
  (s.modCh c fun ch =>
    { ch with state := .data,
              run := { ch.run with position := 0, remaining := ch.run.snapshot.count.toNat } }).nextWord c

/-- A repetition is complete (R52, R55). -/
def State.repetitionDone (s : State) (c : Chan) : State :=
  (s.modRun c fun r => { r with inRepetition := false }).boundary c fun s =>
    let ch := s.ch c
    let d := ch.run.snapshot
    if d.loop = false then s.endData c
    else if (s.port c).hail then s.hailEnding c
    else if d.loopLimit ≠ 0 ∧ ch.reps = d.loopLimit then s.endData c
    else if d.pace = 0 then s.startRepetition c
    else s.modCh c fun ch => { ch with state := .pacing, paceTimer := Timer.start d.pace.toNat }

/-- A word has been dealt with (R52): WORDS counts it if it was completed, and the position moves past it. -/
def State.wordDone (s : State) (c : Chan) (completed : Bool) : State :=
  let s1 := s.modCh c fun ch =>
    { ch with words := if completed then ch.words + 1 else ch.words,
              run := { ch.run with position := ch.run.position + 1, remaining := ch.run.remaining - 1 } }
  if (s1.ch c).run.remaining = 0 then s1.repetitionDone c
  else s1.boundary c fun s => s.nextWord c

/-- In PACING, STOP, quiesce and HAIL are applied at every moment (R56). -/
def State.pacingCheck (s : State) (c : Chan) : State :=
  s.boundary c fun s => if (s.port c).hail then s.hailEnding c else s

/-- A condition of a waiting channel may have changed: a channel waiting at a data decision point applies R51 again, and
one in PACING R56. -/
def State.reexamine (s : State) (c : Chan) : State :=
  if (s.ch c).state = .data ∧ s.wait c = .ready then s.decide c
  else if (s.ch c).state = .pacing then s.pacingCheck c
  else s

/-! ### Lead, turn, load -/

/-- The channel enters TURN and sends it (R50). -/
def State.enterTurn (s : State) (c : Chan) : State :=
  (s.modCh c fun ch => { ch with state := .turn }).runSend c .turn .none

/-- The phase after the lead words: TURN, DATA, or the run has no data phase and is DONE so far (R48, R57). -/
def State.afterLeads (s : State) (c : Chan) : State :=
  let d := (s.ch c).run.snapshot
  if d.turn then s.enterTurn c
  else if d.hasData then s.startRepetition c
  else s.endData c

/-- The next lead word is read (R48). -/
def State.fetchLead (s : State) (c : Chan) : State :=
  let r := (s.ch c).run
  s.request c r.snapshot.leadSpace { addr := wordAddr r.leadAddr r.leadsDone.toNat, body := .read 1 }

/-- A lead word has been sent and accepted, or its refusal tolerated (R46, R48). -/
def State.leadDone (s : State) (c : Chan) : State :=
  (s.modRun c fun r => { r with leadsDone := r.leadsDone + 1 }).boundary c fun s =>
    if (s.ch c).run.leadsDone = (s.ch c).run.snapshot.leads then s.afterLeads c else s.fetchLead c

/-- The channel leaves LOADING for the first phase the snapshot calls for (R45). -/
def State.leaveLoading (s : State) (c : Chan) : State :=
  if (s.ch c).run.snapshot.leads = 0 then s.afterLeads c
  else (s.modCh c fun ch => { ch with state := .lead }).fetchLead c

/-- A trap of a range check at load (R112). -/
def loadTrap (kind : TrapKind) (d : Dom) (c : Chan) (offending : Word) (extent : BitVec 16) : Trap :=
  { kind := kind, domain := d, channel := some c, offending := offending, extent := extent }

/-- Step 4 of R45: the lead list, then the buffer, is checked; the first that fails ends the load with the GUARD fault
(R112). -/
def State.checkRanges (s : State) (c : Chan) : State :=
  let r := (s.ch c).run
  let d := r.snapshot
  if d.leads ≠ 0 ∧ s.rangeOk r.poster d.leadSpace d.leadList d.leads.toNat = false then
    (s.recordTrap (loadTrap .leadRange r.poster c (withSpace d.leadList d.leadSpace) (d.leads.setWidth 16))).faultLoaded c
      .guard (withSpace d.leadList d.leadSpace)
  else if d.hasData ∧ s.rangeOk r.poster d.dataSpace d.buffer d.count.toNat = false then
    (s.recordTrap (loadTrap .bufferRange r.poster c (withSpace d.buffer d.dataSpace) d.count)).faultLoaded c
      .guard (withSpace d.buffer d.dataSpace)
  else
    (s.modRun c fun r =>
      { r with leadAddr := s.translate r.poster d.leadSpace d.leadList,
               bufAddr := s.translate r.poster d.dataSpace d.buffer }).boundary c fun s => s.leaveLoading c

/-- The descriptor has been read: the snapshot is taken whole and checked (R45 steps 2 to 4). -/
def State.descriptorRead (s : State) (c : Chan) (ws : List Word) : State :=
  let d := Snapshot.ofWords ws
  let s1 := s.modRun c fun r => { r with snapshot := d }
  if d.formatOk then s1.checkRanges c else s1.faultLoaded c .badDescriptor 0

/-- Step 1 of R45: the descriptor's range is checked and its address translated; step 2 asks for the read. -/
def State.beginLoad (s : State) (c : Chan) : State :=
  let ch := s.ch c
  let sp := postedSpace ch.current
  let a := postedAddr ch.current
  if s.rangeOk ch.run.poster sp a 8 then
    (s.modRun c fun r => { r with descAddr := s.translate r.poster sp a }).request c sp
      { addr := s.translate ch.run.poster sp a, body := .read 5 }
  else (s.recordTrap (loadTrap .descriptorRange ch.run.poster c ch.current 8)).faultUnloaded c .guard ch.current

/-- The channel takes the entry from the head of its queue (R44). -/
def Channel.take (ch : Channel) (e : QueueEntry) (rest : List QueueEntry) : Channel :=
  { ch with queue := rest, current := e.posted, reps := 0, words := 0,
            run := { Run.blank with poster := e.poster }, state := .loading }

/-- The conditions under which a channel takes the run at the head of its queue (R43). Condition 7 always holds between
steps: a service is due only within the step that begins it. -/
def State.canTake (s : State) (c : Chan) : Bool :=
  let ch := s.ch c
  ch.state == .idle && ch.armed && !ch.queue.isEmpty && s.hubState == .operational
    && !ch.detached && !ch.detachPending && !(s.directOnPort c) && ch.flushCount == 0

/-! ### Attention service -/

/-- A new hail rise is served (R143). -/
def State.servesHail (s : State) (c : Chan) : Bool :=
  let ch := s.ch c
  ch.state == .idle && !ch.detached && s.hubState == .operational && !(s.directOnPort c) && ch.autoAsk

/-- The channel enters SERVICING and sends one ASK (R144). -/
def State.beginService (s : State) (c : Chan) : State :=
  (s.modCh c fun ch => { ch with state := .servicing, run := Run.blank }).send c .channel .ask .none

/-- A new hail rise is served, or latches the channel's event source (R143). -/
def State.newHail (s : State) (c : Chan) : State :=
  if s.servesHail c then s.beginService c else s.latchChannel c

/-- The ASK of a service has ended (R145). -/
def State.serviceAnswer (s : State) (c : Chan) (res : LinkResult) : State :=
  match res with
  | .accept w =>
    let s1 := s.capture c w
    let r := (s1.ch c).run
    s1.logRecord c (serviceRecord c .attentionService .none r.flags r.screenIndex w)
  | .refuse => s.logRecord c (serviceRecord c .attentionService .none Flags.clear 0 0)
  | .noAnswer => (s.pulseClear c).logRecord c (serviceRecord c .noAnswer .ask { Flags.clear with halted := true } 0 0)

/-! ### Results delivered to the channel -/

/-- A tolerated refusal is counted, saturating at 255 (R46). -/
def State.countRefusal (s : State) (c : Chan) : State :=
  s.modRun c fun r => { r with refusals := satInc r.refusals }

/-- How a run treats the result of a LEAD, TURN, PUT, GET or ASK (R46): ACCEPT goes on, a REFUSE is tolerated or a fault,
and NO_ANSWER is a fault. -/
def State.runAnswer (s : State) (c : Chan) (step : RunStep) (res : LinkResult) (accepted : Word → State → State)
    (tolerated : State → State) : State :=
  match res with
  | .accept w => accepted w s
  | .refuse => if (s.ch c).run.snapshot.tolerate then tolerated (s.countRefusal c) else s.faultAbort c .refused step 0
  | .noAnswer => s.faultNoAnswer c step

/-- The word delivered by a GET is written to the current position (R53). -/
def State.storeWord (s : State) (c : Chan) (w : Word) : State :=
  let r := (s.ch c).run
  s.request c r.snapshot.dataSpace { addr := wordAddr r.bufAddr r.position, body := .write [w] }

/-- The port controller delivers the result of the channel's transaction. -/
def State.channelResult (s : State) (c : Chan) (res : LinkResult) : State :=
  match (s.ch c).state with
  | .lead => s.runAnswer c .lead res (fun _ s => s.leadDone c) fun s => s.leadDone c
  | .turn =>
    s.runAnswer c .turn res (fun _ s => s.boundary c fun s => s.startRepetition c) fun s =>
      s.boundary c fun s => s.startRepetition c
  | .data =>
    s.runAnswer c (s.ch c).run.dataStep res
      (fun w s => if (s.ch c).run.snapshot.dir = .output then s.wordDone c true else s.storeWord c w)
      fun s => s.wordDone c false
  | .status => s.runAnswer c .ask res (fun w s => (s.capture c w).afterAsk c) fun s => s.afterAsk c
  | .closing =>
    match res with
    | .noAnswer => s.closeUnanswered c
    | _ => s.enterWriteback c
  | .servicing => s.serviceAnswer c res
  | _ => s

/-- The direct slot records the result of its transaction and the DIRECT source is latched (R152). -/
def State.directResult (s : State) (res : LinkResult) : State :=
  match res with
  | .accept w => { s with direct := { s.direct with result := .doneAccept, wordIn := w } }.latchDirect
  | .refuse => { s with direct := { s.direct with result := .doneRefuse, wordIn := 0 } }.latchDirect
  | .noAnswer => { s with direct := { s.direct with result := .noAnswer, wordIn := 0 } }.latchDirect

/-- The controller enters LINK_IDLE and delivers the result to the issuer recorded (R5, R8). -/
def State.deliver (s : State) (c : Chan) (t : Transaction) (res : LinkResult) : State :=
  match t.issuer with
  | .channel => (s.endTransaction c).channelResult c res
  | .direct => (s.endTransaction c).directResult res

/-- The result of an access is handed to the channel (R45, R48, R53, R60, R79, R122). -/
def State.accessResult (s : State) (c : Chan) (res : AccessResult) : State :=
  let ch := s.ch c
  match ch.state, res with
  | .loading, .ok ws => s.descriptorRead c ws
  | .loading, .failed o => s.faultUnloaded c o ch.current
  | .lead, .ok ws => s.boundary c fun s => s.runSend c .lead (.word (ws.getD 0 0))
  | .lead, .failed o => s.faultAbort c o .lead ch.run.leadFaultAddr
  | .data, .ok ws =>
    if ch.run.snapshot.dir = .output then
      (s.modRun c fun r => { r with outWord := some (ws.getD 0 0) }).decide c
    else s.wordDone c true
  | .data, .failed o => s.faultAbort c o ch.run.dataStep ch.run.bufferFaultAddr
  | .writeback, .ok _ => s.logRun c
  | .writeback, .failed _ => (s.modFlags c fun f => { f with writebackFailed := true }).logRun c
  | _, _ => s

end Sys2Proof.Machine
end

