-- ==== Sys2Proof/Machine/Hub.lean ====
section
/-! DEFINITION. Hub Control and what follows a step: pending changes (R120, R155), grants and presentation (R125, R132),
quiesce (R178, R180), channel reset (R83), hub reset (R176), power-on reset (R174) and ticks (R171). -/

namespace Sys2Proof.Machine

/-! ### What follows within the same step -/

/-- A pending domain change takes effect once the channel is empty (R120). -/
def Channel.domainEffect (ch : Channel) : Channel :=
  match ch.pendingDomain with
  | some d => if ch.empty then { ch with domain := d, pendingDomain := none } else ch
  | none => ch

/-- A pending detach takes effect once the channel is IDLE or HALTED (R155). -/
def Channel.detachEffect (ch : Channel) : Channel :=
  if ch.detachPending && (ch.state == .idle || ch.state == .halted) then
    { ch with detached := true, detachPending := false }
  else ch

/-- Pending changes that can take effect do, on every channel (R120, R155). -/
def State.pendingEffects (s : State) : State :=
  { s with channels := s.channels.map fun ch => ch.domainEffect.detachEffect }

/-- Every channel is settled and the direct slot is not busy (R180). -/
def State.atRest (s : State) : Bool := allChans.all (fun c => s.settled c) && s.direct.result != .busy

/-- A QUIESCING hub at rest enters QUIESCED in the step that completes the condition (R180). -/
def State.completeQuiesce (s : State) : State :=
  if s.hubState = .quiescing ∧ s.atRest = true then { s with hubState := .quiesced } else s

/-- What comes about at the end of a step of the hub: pending changes, one grant, one presentation, and the completion of
quiesce (R120, R125, R132, R155, R180). -/
def State.settle (s : State) : State := s.pendingEffects.grant.present.completeQuiesce

/-! ### Quiesce -/

/-- The hub enters QUIESCING, which is a change of condition for every waiting channel, in ascending order (R51, R56,
R178). -/
def State.enterQuiescing (s : State) : State :=
  State.forChans { s with hubState := .quiescing } fun c s => s.reexamine c

/-! ### RESET_CHANNEL -/

/-- A direct transaction outstanding on the port of the reset channel is cancelled (R83 item 2, R153). -/
def State.cancelDirect (s : State) (c : Chan) : State :=
  if s.direct.result = .busy ∧ s.direct.port = c then
    { s with direct := { s.direct with result := .cancelled, wordIn := 0 } }.latchDirect
  else s

/-- The channel's own state after RESET_CHANNEL (R38, R65, R83, R87, R121, R158). -/
def Channel.afterReset (ch : Channel) : Channel :=
  { Channel.reset with
    lastCmd := .accepted, postStatus := ch.postStatus,
    domain := ch.pendingDomain.getD ch.domain, pendingDomain := none,
    detached := ch.detached || ch.detachPending, detachPending := false,
    answerTimeout := ch.answerTimeout, readyTimeout := ch.readyTimeout, autoAsk := ch.autoAsk }

/-- The accesses of a channel are abandoned or withdrawn (R84, R128, R133). -/
def State.abandonAccesses (s : State) (c : Chan) : State :=
  { (s.modMem c MemSlot.abandon).setStoreReq c none with granted := s.granted.map fun g => g.abandonFor c }

/-- RESET_CHANNEL, in the order of R83: its accesses are abandoned, CLEAR is pulsed, a direct transaction is cancelled,
the waiting list is left, the port's two flags and the channel's source are cleared, and the channel is reset. -/
def State.resetChan (s : State) (c : Chan) : State :=
  let s1 := (((s.abandonAccesses c).pulseClear c).cancelDirect c).leaveWaiting c
  let s2 := s1.modPort c fun p => { p with hailSeen := false, stray := false }
  let s3 := { s2 with events := { s2.events with channels := s2.events.channels.set c.val false } }
  (s3.modCh c Channel.afterReset).settle

/-! ### HUB_RESET and power-on reset -/

/-- A port after HUB_RESET or power-on reset: the partner's levels are not the hub's to reset (R18). -/
def Port.afterReset (p : Port) : Port := { Port.reset with ready := p.ready, hail := p.hail }

/-- Every channel's claim to the granted access is dropped; a host access goes on (R133, R176). -/
def Granted.abandonAll (g : Granted) : Granted :=
  match g with
  | .channel c a _ => .channel c a false
  | g => g

/-- CLEAR is pulsed once on every port (R175, R176). -/
def State.clearAll (s : State) : State := s.forChans fun c s => s.pulseClear c

/-- HUB_RESET (R176): the power-on values, but for the store, the accesses issued or granted, the access numbers, waiting
host aperture accesses, the tick period in progress, the input levels and LAST_CMD; then OPERATIONAL, or QUIESCING and
QUIESCED if SUPPLY_WARN is asserted. -/
def State.resetHub (s : State) : State :=
  let s1 := s.clearAll
  State.settle { State.reset with
    hubState := if s.supplyWarn then .quiescing else .operational,
    hubLastCmd := .accepted, supplyWarn := s.supplyWarn, tickPeriod := s.tickPeriod,
    slots := s.slots.map MemSlot.abandon, store := s.store, hostWaiting := s.hostWaiting,
    granted := s.granted.map Granted.abandonAll, ports := s1.ports.map Port.afterReset,
    pending := s.pending, outputs := s1.outputs }

/-- Power-on reset: while RESET is asserted the hub is held in its reset values; the store is not cleared yet, and the
input levels are not the hub's to reset (R174). -/
def State.powerOn (s : State) : State :=
  { State.reset with
    resetAsserted := true, supplyWarn := s.supplyWarn, store := s.store, ports := s.ports.map Port.afterReset,
    pending := s.pending, outputs := s.outputs }

/-- The end of initialisation (R175): the store is clear, CLEAR is pulsed on every port, every stray-answer flag is 0, and
the hub is OPERATIONAL, or QUIESCED if SUPPLY_WARN is asserted. -/
def State.endInitialisation (s : State) : State :=
  let s1 := s.clearAll
  State.settle { s1 with
    store := [], ports := s1.ports.map fun p => { p with stray := false },
    hubState := if s.supplyWarn then .quiescing else .operational }

/-! ### Ticks -/

/-- A tick boundary, which every running timer counts; the next tick period takes TICK_DIVIDER cycles, 0 acting as 1
(R171, R172). -/
def State.tickAll (s : State) : State :=
  { s with
    tickPeriod := max 1 s.tickDivider.toNat,
    ports := s.ports.map fun p => { p with timer := p.timer.tick },
    channels := s.channels.map fun ch =>
      { ch with readyTimer := ch.readyTimer.tick, paceTimer := ch.paceTimer.tick },
    slots := s.slots.map fun m => { m with slot := m.slot.tick } }

end Sys2Proof.Machine
end

