-- ==== Sys2Proof/Machine/Commands.lean ====
section
/-! DEFINITION. What a host write does at the block it reaches, once the Guard has permitted it: channel commands (R85),
posting (R32), hub commands (R177), direct commands (R149), the Guard's, the Concentrator's, the screen's and the logs'
own writes. -/

namespace Sys2Proof.Machine

/-! ### Channel commands (R85, R86) -/

/-- Sets CH_STATUS.LAST_CMD. -/
def State.setLastCmd (s : State) (c : Chan) (st : ChCmdStatus) : State :=
  s.modCh c fun ch => { ch with lastCmd := st }

/-- START sets the armed flag and nothing else (R42). -/
def State.cmdStart (s : State) (c : Chan) : State :=
  s.modCh c fun ch => { ch with armed := true, lastCmd := .accepted }

/-- STOP clears the armed flag and, in a run state, sets the stop-pending mark; a run at a boundary ends at once (R67,
R68). LAST_CMD is DEFERRED if the mark is left set (R86). -/
def State.cmdStop (s : State) (c : Chan) : State :=
  let s1 := (s.modCh c fun ch =>
    { ch with armed := false, stopPending := ch.stopPending || ch.state.stoppable }).reexamine c
  (s1.setLastCmd c (if (s1.ch c).stopPending then .deferred else .accepted)).settle

/-- FLUSH discards every queue entry into the pending flush count (R35); in IDLE or HALTED the FLUSHED record is produced
at once (R36). -/
def State.cmdFlush (s : State) (c : Chan) : State :=
  let ch := s.ch c
  let s1 := s.modCh c fun ch =>
    { ch with queue := [], flushCount := satAdd8 ch.flushCount ch.queue.length, lastCmd := .accepted }
  if ch.queue = [] then s1
  else if ch.state = .idle then
    ((s1.modCh c fun ch => { ch with afterLogging := .idle }).produceFlushed c).settle
  else if ch.state = .halted then
    ((s1.modCh c fun ch => { ch with afterLogging := .backToHalted }).produceFlushed c).settle
  else s1

/-- RESUME moves a HALTED channel to IDLE and is IGNORED in any other state (R82). -/
def State.cmdResume (s : State) (c : Chan) : State :=
  if (s.ch c).state = .halted then
    (s.modCh c fun ch => { ch with state := .idle, lastCmd := .accepted }).settle
  else s.setLastCmd c .ignored

/-- RESET_CHANNEL (R83). -/
def State.cmdReset (s : State) (c : Chan) : State := s.resetChan c

/-- DETACH or ATTACH written by the owning tenant is refused (R85, R106). -/
def State.refusePrivilege (s : State) (d : Dom) (c : Chan) : State :=
  (s.setLastCmd c .rejectedPrivilege).recordTrap (privilegeTrap d c)

/-- DETACH (R155). -/
def State.cmdDetach (s : State) (d : Dom) (c : Chan) : State :=
  let ch := s.ch c
  if d ≠ 0 then s.refusePrivilege d c
  else if ch.detached then s.setLastCmd c .accepted
  else if ch.state = .idle ∨ ch.state = .halted then
    s.modCh c fun ch => { ch with detached := true, detachPending := false, lastCmd := .accepted }
  else s.modCh c fun ch => { ch with detachPending := true, lastCmd := .deferred }

/-- ATTACH (R156). -/
def State.cmdAttach (s : State) (d : Dom) (c : Chan) : State :=
  if d ≠ 0 then s.refusePrivilege d c
  else s.modCh c fun ch => { ch with detached := false, detachPending := false, lastCmd := .accepted }

/-- A write to CH_COMMAND, decoded from its whole value (R85). -/
def State.chCommand (s : State) (d : Dom) (c : Chan) (v : Word) : State :=
  match v.toNat with
  | 1 => s.cmdStart c
  | 2 => s.cmdStop c
  | 3 => s.cmdFlush c
  | 4 => s.cmdResume c
  | 5 => s.cmdReset c
  | 6 => s.cmdDetach d c
  | 7 => s.cmdAttach d c
  | _ => s.setLastCmd c .ignored

/-- Sets CH_POST_STATUS (R34). -/
def State.setPost (s : State) (c : Chan) (st : PostStatus) : State :=
  s.modCh c fun ch => { ch with postStatus := st }

/-- A request to post, decided by the first check of R32 that fails. -/
def State.postRequest (s : State) (d : Dom) (c : Chan) (v : Word) : State :=
  if s.hubState = .quiescing ∨ s.hubState = .quiesced then s.setPost c .quiescing
  else if (s.ch c).pendingDomain.isSome then s.setPost c .domainChanging
  else if postedAligned v = false then s.setPost c .misaligned
  else if s.rangeOk d (postedSpace v) (postedAddr v) 8 = false then
    (s.setPost c .outOfWindow).recordTrap (loadTrap .descriptorRange d c v 8)
  else if Config.queueDepth ≤ (s.ch c).queue.length then s.setPost c .queueFull
  else s.modCh c fun ch =>
    { ch with queue := ch.queue ++ [{ posted := v, poster := d }], postStatus := .accepted }

/-- A write to CH_CONFIG replaces its three fields (R63, R187). -/
def State.writeConfig (s : State) (c : Chan) (v : Word) : State :=
  s.modCh c fun ch =>
    { ch with answerTimeout := v.extractLsb' 0 12, autoAsk := v.getLsbD 12, readyTimeout := v.extractLsb' 16 16 }

/-- A 1 written to CH_PORT.STRAY clears the stray-answer flag; nothing else of CH_PORT can be written (R9, R17). -/
def State.writePort (s : State) (c : Chan) (v : Word) : State :=
  if v.getLsbD 19 then s.modPort c fun p => { p with stray := false } else s

/-! ### Hub commands (R177) -/

/-- ENTER_QUIESCE (R177, R178). -/
def State.cmdEnterQuiesce (s : State) : State :=
  if s.hubState = .operational then (State.enterQuiescing { s with hubLastCmd := .accepted }).settle
  else { s with hubLastCmd := .ignored }

/-- RESUME_ALL (R177, R182). -/
def State.cmdResumeAll (s : State) : State :=
  if s.hubState = .quiesced ∧ s.supplyWarn = false then
    { s with hubState := .operational, hubLastCmd := .accepted }
  else { s with hubLastCmd := .rejected }

/-- A write to HUB_COMMAND, decoded from its whole value (R177). -/
def State.hubCommand (s : State) (v : Word) : State :=
  match v.toNat with
  | 1 => s.resetHub
  | 2 => s.cmdEnterQuiesce
  | 3 => s.cmdResumeAll
  | _ => { s with hubLastCmd := .ignored }

/-! ### The direct path (R149 to R151) -/

/-- The payload of a direct transaction (R150). -/
def directPayload (k : Kind) (wordOut : Word) (last : Bool) (code : CloseCode) : Payload :=
  match k with
  | .lead => .word wordOut
  | .put => .data wordOut last
  | .get => .mark last
  | .close => .close code
  | .turn | .ask => .none

/-- A rejected direct command shows its PORT and KIND with the result (R149). -/
def State.rejectDirect (s : State) (port : Chan) (kind : BitVec 3) (r : DirResult) : State :=
  { s with direct := { s.direct with result := r, port := port, kind := kind } }

/-- A direct command is accepted and its transaction sent (R150). -/
def State.acceptDirect (s : State) (port : Chan) (k : Kind) (last : Bool) (code : CloseCode) : State :=
  State.send { s with direct :=
      { s.direct with overrun := false, wordIn := 0, result := .busy, port := port, kind := k.code } }
    port .direct k (directPayload k s.direct.wordOut last code)

/-- A write to DIR_COMMAND, decided by the first check of R149 that applies. -/
def State.directCommand (s : State) (port : Chan) (kind : BitVec 3) (last : Bool) (code : CloseCode) : State :=
  if s.direct.result = .busy then { s with direct := { s.direct with overrun := true } }
  else
    match kindOfCode kind with
    | none => s.rejectDirect port kind .rejectedKind
    | some k =>
      if s.hubState = .quiescing ∨ s.hubState = .quiesced then s.rejectDirect port kind .rejectedQuiesce
      else if (s.ch port).detached = false ∧ (s.ch port).state ≠ .idle ∧ (s.ch port).state ≠ .halted then
        s.rejectDirect port kind .rejectedBusy
      else s.acceptDirect port k last code

/-- The fields of a word written to DIR_COMMAND (section 12.5). -/
def State.directWord (s : State) (v : Word) : State :=
  s.directCommand (Fin.ofNat 8 (v.extractLsb' 0 3).toNat) (v.extractLsb' 4 3) (v.getLsbD 8)
    (if v.getLsbD 9 then .abort else .normal)

/-! ### Guard, Concentrator, screen and logs -/

/-- A write to GRD_ASSIGN, decided by the first row of R118's table that applies. -/
def State.assign (s : State) (v : Word) : State :=
  let c : Chan := Fin.ofNat 8 (v.extractLsb' 0 3).toNat
  let d : Dom := Fin.ofNat 4 (v.extractLsb' 4 2).toNat
  if (s.ch c).domain = d then s.modCh c fun ch => { ch with pendingDomain := none, lastCmd := .accepted }
  else if (s.ch c).empty then
    s.modCh c fun ch => { ch with domain := d, pendingDomain := none, lastCmd := .accepted }
  else s.modCh c fun ch => { ch with pendingDomain := some d, lastCmd := .deferred }

/-- A write to GRD_TRAP_ACK empties the trap slot (R117). -/
def State.ackTrap (s : State) : State :=
  match s.trap with
  | none => s
  | some _ => { s with trap := none, lost := 0 }

/-- A write to EVC_CLEAR clears every latched source whose bit is 1; bits of level sources are ignored (R162). -/
def State.clearEvents (s : State) (v : Word) : State :=
  { s with events :=
      { s.events with
        screen := s.events.screen && !(v.getLsbD 2), direct := s.events.direct && !(v.getLsbD 3),
        channels := Vector.ofFn fun c : Fin 8 => s.events.channels[c.val] && !(v.getLsbD (8 + c.val)) } }

/-- A write to a word of a screen entry (R137). -/
def ScreenEntry.write (e : ScreenEntry) (w : Fin 4) (v : Word) : ScreenEntry :=
  match w with
  | 0 => { e with valid := v.getLsbD 31, action := v.extractLsb' 8 2, channels := v.extractLsb' 0 8 }
  | 1 => { e with value := v }
  | 2 => { e with care := v }
  | 3 => { e with hits := 0 }

/-- A write to a word of screen entry k. -/
def State.writeScreen (s : State) (k : Fin 8) (w : Fin 4) (v : Word) : State :=
  { s with screen := s.screen.set k.val ((s.screen[k.val]).write w v) }

/-- A write to LOG_THRESHOLD: the whole value is tested (R99). -/
def State.writeThreshold (s : State) (d : Dom) (v : Word) : State :=
  if v.toNat ≤ 16 then s.modLog d fun l => { l with threshold := v.setWidth 5 } else s

/-- A write to LOG_POP (R95), with what follows in the same step. -/
def State.cmdPop (s : State) (d : Dom) : State := (s.popLog d).settle

/-- A write to one of a tenant's window registers (R107). -/
def State.modWindow (s : State) (t : Fin 3) (f : Window → Window) : State :=
  { s with windows := s.windows.set t.val (f s.windows[t.val]) }

end Sys2Proof.Machine
end

