-- ==== Sys2Proof/Machine/Window.lean ====
section
/-! DEFINITION. The register window: what a read of each register returns (chapter 12) and what a write to any offset does
(R184, R187). -/

namespace Sys2Proof.Machine

/-! ### Reading -/

/-- HUB_STATUS (R173, section 12.5). -/
def State.hubStatusWord (s : State) : Word :=
  (0 : BitVec 22) ++ s.hubLastCmd.code ++ (0 : BitVec 3) ++ flag s.supplyWarn ++ (0 : BitVec 2) ++ s.hubState.code

/-- CH_STATUS, every field at one moment (section 12.5). -/
def State.chStatusWord (s : State) (c : Chan) : Word :=
  let ch := s.ch c
  (0 : BitVec 1) ++ flag ch.detachPending ++ flag ch.detached ++ BitVec.ofNat 2 (ch.pendingDomain.getD 0).val
    ++ flag ch.pendingDomain.isSome ++ BitVec.ofNat 2 ch.domain.val ++ ch.flushCount ++ (0 : BitVec 1)
    ++ BitVec.ofNat 3 ch.queue.length ++ ch.lastCmd.code ++ flag ch.stopPending ++ flag ch.armed
    ++ (s.wait c).code ++ ch.state.code

/-- CH_CONFIG (section 12.5). -/
def Channel.configWord (ch : Channel) : Word :=
  ch.readyTimeout ++ (0 : BitVec 3) ++ flag ch.autoAsk ++ ch.answerTimeout

/-- CH_PORT.KIND: the kind code of the outstanding transaction, or 0 in LINK_IDLE (R16). -/
def Port.kindCode (p : Port) : BitVec 3 :=
  match p.outstanding with
  | some t => t.kind.code
  | none => 0

/-- CH_PORT.ISSUER: 1 DIRECT, 0 CHANNEL or LINK_IDLE (R16). -/
def Port.issuedByDirect (p : Port) : Bool := p.outstanding.any fun t => t.issuer == .direct

/-- CH_PORT (R16, section 12.5). -/
def Port.word (p : Port) : Word :=
  (0 : BitVec 12) ++ flag p.stray ++ flag p.hailSeen ++ flag p.hail ++ flag p.ready ++ p.seq ++ (0 : BitVec 1)
    ++ p.kindCode ++ (0 : BitVec 2) ++ flag p.issuedByDirect ++ flag p.outstanding.isSome

/-- The channel field of a trap: 0 to 7, or 127 NONE (R115). -/
def trapChannel (o : Option Chan) : BitVec 7 :=
  match o with
  | some c => BitVec.ofNat 7 c.val
  | none => 127

/-- A word of the trap slot; while VALID is 0 all four read 0 (R115, section 12.5). -/
def State.trapWord (s : State) (w : Fin 4) : Word :=
  match s.trap with
  | none => 0
  | some t =>
    match w with
    | 0 => flag true ++ (0 : BitVec 16) ++ trapChannel t.channel ++ (0 : BitVec 2) ++ BitVec.ofNat 2 t.domain.val
        ++ (0 : BitVec 1) ++ t.kind.code
    | 1 => t.offending
    | 2 => s.lost.setWidth 32
    | 3 => t.extent.setWidth 32

/-- A word of a screen entry (R137). -/
def ScreenEntry.word (e : ScreenEntry) (w : Fin 4) : Word :=
  match w with
  | 0 => flag e.valid ++ (0 : BitVec 21) ++ e.action ++ e.channels
  | 1 => e.value
  | 2 => e.care
  | 3 => e.hits.setWidth 32

/-- SCR_LAST_HIT (R140). -/
def hitWord (o : Option Hit) : Word :=
  match o with
  | some h => flag true ++ (0 : BitVec 24) ++ BitVec.ofNat 3 h.channel.val ++ (0 : BitVec 1) ++ BitVec.ofNat 3 h.entry.val
  | none => 0

/-- DIR_STATUS (section 12.5). -/
def Direct.statusWord (x : Direct) : Word :=
  (0 : BitVec 15) ++ flag x.overrun ++ (0 : BitVec 5) ++ x.kind ++ (0 : BitVec 1) ++ BitVec.ofNat 3 x.port.val
    ++ x.result.code

/-- LOG_COUNT (R98, section 12.6). -/
def Log.countWord (l : Log) : Word :=
  (0 : BitVec 20) ++ BitVec.ofNat 4 l.waiting.length ++ (0 : BitVec 3) ++ BitVec.ofNat 5 l.records.length

/-- Word k of LOG_HEAD: of the head record, or 0 when the log is empty (R97). -/
def Log.headWord (l : Log) (k : Fin 6) : Word :=
  match l.records with
  | [] => 0
  | r :: _ => r.word k

/-- A read of a register of a channel group (section 12.2). -/
def State.readCh (s : State) (c : Chan) (r : ChReg) : Word :=
  match r with
  | .command | .post => 0
  | .status => s.chStatusWord c
  | .postStatus => (s.ch c).postStatus.code.setWidth 32
  | .config => (s.ch c).configWord
  | .progress => (s.ch c).word6
  | .current => (s.ch c).current
  | .port => (s.port c).word

/-- A read of a register of a log window (section 12.2). -/
def State.readLog (s : State) (d : Dom) (r : LogReg) : Word :=
  match r with
  | .count => (s.log d).countWord
  | .threshold => (s.log d).threshold.setWidth 32
  | .pop => 0
  | .head k => (s.log d).headWord k

/-- A read of any register; no read has a side effect (R184). -/
def State.readReg (s : State) (r : Reg) : Word :=
  match r with
  | .id => Config.idWord
  | .hubStatus => s.hubStatusWord
  | .hubCommand => 0
  | .tickDivider => s.tickDivider.setWidth 32
  | .memTimeout => s.memTimeout.setWidth 32
  | .hostBase t => (s.windows[t.val]).hostBase.setWidth 32
  | .hostSize t => (s.windows[t.val]).hostSize.setWidth 32
  | .stageBase t => (s.windows[t.val]).stageBase.setWidth 32
  | .stageSize t => (s.windows[t.val]).stageSize.setWidth 32
  | .assign => 0
  | .trapSlot w => s.trapWord w
  | .trapAck => 0
  | .evcRaw => s.sources.setWidth 32
  | .evcPending => s.sources.setWidth 32
  | .evcClear => 0
  | .evcEnable => s.events.enable.setWidth 32
  | .evcRoute => s.events.route
  | .evcWakeEnable => s.events.wakeEnable.setWidth 32
  | .evcIdentAlert => identWord (s.driver 1)
  | .evcIdentNotice => identWord (s.driver 2)
  | .screen k w => (s.screen[k.val]).word w
  | .lastHit => hitWord s.lastHit
  | .dirCommand => 0
  | .dirWordOut => s.direct.wordOut
  | .dirStatus => s.direct.statusWord
  | .dirWordIn => s.direct.wordIn
  | .ch c r => s.readCh c r
  | .log d r => s.readLog d r

/-- The value of a permitted read of an offset; an unmapped offset reads 0 (R185). -/
def State.readOffset (s : State) (off : Offset) : Word :=
  match regAt off with
  | some r => s.readReg r
  | none => 0

/-- What a read of the control window returns (R103, R104, R105, R184). -/
def State.readWindow (s : State) (d : Dom) (size : Size) (off : Offset) : Word :=
  if actedOn size off = false then 0
  else
    match s.verdict d off with
    | .initialising =>
      if regAt off = some .id ∨ (regAt off = some .hubStatus ∧ d = 0) then s.readOffset off else 0
    | .violation => 0
    | .permitted => s.readOffset off

/-! ### Writing -/

/-- A permitted write to a register of a channel group. -/
def State.writeCh (s : State) (d : Dom) (c : Chan) (r : ChReg) (v : Word) : State :=
  match r with
  | .command => s.chCommand d c v
  | .post => s.postRequest d c v
  | .config => s.writeConfig c v
  | .port => s.writePort c v
  | .status | .postStatus | .progress | .current => s

/-- A permitted write to a register of a log window. -/
def State.writeLog (s : State) (d : Dom) (r : LogReg) (v : Word) : State :=
  match r with
  | .threshold => s.writeThreshold d v
  | .pop => s.cmdPop d
  | .count | .head _ => s

/-- A permitted write to any register (R184, R187); a read-only register ignores it. -/
def State.writeReg (s : State) (d : Dom) (r : Reg) (v : Word) : State :=
  match r with
  | .hubCommand => s.hubCommand v
  | .tickDivider => { s with tickDivider := v.extractLsb' 0 12 }
  | .memTimeout => { s with memTimeout := v.extractLsb' 0 10 }
  | .hostBase t => s.modWindow t fun w => { w with hostBase := v.extractLsb' 0 20 }
  | .hostSize t => s.modWindow t fun w => { w with hostSize := v.extractLsb' 0 16 }
  | .stageBase t => s.modWindow t fun w => { w with stageBase := v.extractLsb' 0 7 }
  | .stageSize t => if v.toNat ≤ 128 then s.modWindow t fun w => { w with stageSize := v.extractLsb' 0 8 } else s
  | .assign => s.assign v
  | .trapAck => s.ackTrap
  | .evcClear => s.clearEvents v
  | .evcEnable => { s with events := { s.events with enable := v.extractLsb' 0 16 } }
  | .evcRoute => { s with events := { s.events with route := v } }
  | .evcWakeEnable => { s with events := { s.events with wakeEnable := v.extractLsb' 0 16 } }
  | .screen k w => s.writeScreen k w v
  | .dirCommand => s.directWord v
  | .dirWordOut => { s with direct := { s.direct with wordOut := v } }
  | .ch c r => s.writeCh d c r v
  | .log l r => s.writeLog l r v
  | .id | .hubStatus | .trapSlot _ | .evcRaw | .evcPending | .evcIdentAlert | .evcIdentNotice | .lastHit
  | .dirStatus | .dirWordIn => s

/-- A permitted write to an offset; an unmapped offset ignores it (R185). -/
def State.writeOffset (s : State) (d : Dom) (off : Offset) (v : Word) : State :=
  match regAt off with
  | some r => s.writeReg d r v
  | none => s

/-- A host write to the control window (R103, R105, R184). -/
def State.writeWindow (s : State) (d : Dom) (size : Size) (off : Offset) (v : Word) : State :=
  if actedOn size off = false then s else s.guarded d off fun s => s.writeOffset d off v

/-- A host write to a register, by way of the Guard. -/
def State.hostWrite (s : State) (d : Dom) (r : Reg) (act : State → State) : State := s.guarded d r.offset act

/-! ### The staging aperture -/

/-- A 32-bit access at a multiple of 4 is the only one acted on (R103 step 1, R134). -/
def apertureActedOn (size : Size) (off : ApertureOffset) : Bool := size == .word && off.toNat % 4 == 0

/-- The trap of an aperture access out of the domain's window (R114). -/
def apertureTrap (d : Dom) (off : ApertureOffset) : Trap :=
  { kind := .apertureRange, domain := d, channel := none, offending := withSpace (off.setWidth 32) .staging, extent := 1 }

/-- A host access to the staging aperture (R103, R114, R134): refused accesses complete at once with 0 and a normal
response; the others wait for the arbiter. -/
def State.apertureAccess (s : State) (d : Dom) (size : Size) (off : ApertureOffset) (a : HostAccess) : State :=
  let addr : Word := off.setWidth 32
  if apertureActedOn size off = false then s.emit (.hostResponse d 0 false)
  else if s.hubState = .initialising then s.emit (.hostResponse d 0 false)
  else if s.rangeOk d .staging addr 1 = false then
    (s.recordTrap (apertureTrap d off)).emit (.hostResponse d 0 false)
  else
    State.settle { s with hostWaiting := s.hostWaiting ++
      [{ domain := d, word := BitVec.ofNat 13 (storeIndex (s.translate d .staging addr)), access := a }] }

/-- The host's granted access completes (R134). -/
def State.hostAccessDone (s : State) (r : HostRequest) : State :=
  match r.access with
  | .write v =>
    State.emit { s with store := s.store.put r.word.toNat (StoreWord.agreeing v) } (.hostResponse r.domain 0 false)
  | .read =>
    let x := s.store.get r.word.toNat
    if x.agrees then s.emit (.hostResponse r.domain x.data false) else s.emit (.hostResponse r.domain 0 true)

end Sys2Proof.Machine
end

