-- ==== Sys2Proof/Machine/BlockCommands.lean ====
section
/-! DEFINITION. Host writes to the logs, the Guard, the Status Screen and the Event Concentrator. -/

namespace Sys2Proof.Machine

/-- LOG_POP (R95, R101). -/
def execLogPop (d : Dom) (l : Dom) (s : State) : Host.Outcome State Fault Refusal :=
  .next (s.hostWrite d (.log l .pop) fun s => s.cmdPop l)

/-- LOG_THRESHOLD_WRITE (R99, R101). -/
def execLogThresholdWrite (d : Dom) (l : Dom) (v : Word) (s : State) : Host.Outcome State Fault Refusal :=
  .next (s.hostWrite d (.log l .threshold) fun s => s.writeThreshold l v)

/-- GRD_ASSIGN (R118). -/
def execGrdAssign (d : Dom) (v : Word) (s : State) : Host.Outcome State Fault Refusal :=
  .next (s.hostWrite d .assign fun s => s.assign v)

/-- GRD_TRAP_ACK (R117). -/
def execGrdTrapAck (d : Dom) (s : State) : Host.Outcome State Fault Refusal :=
  .next (s.hostWrite d .trapAck fun s => s.ackTrap)

/-- SCR_HITS_CLEAR (R137): a write of any value to word 3 of the entry. -/
def execScrHitsClear (d : Dom) (k : Chan) (s : State) : Host.Outcome State Fault Refusal :=
  .next (s.hostWrite d (.screen k 3) fun s => s.writeScreen k 3 0)

/-- EVC_CLEAR (R162). -/
def execEvcClear (d : Dom) (v : Word) (s : State) : Host.Outcome State Fault Refusal :=
  .next (s.hostWrite d .evcClear fun s => s.clearEvents v)

end Sys2Proof.Machine
end

