-- ==== Sys2Proof/Machine/ChannelCommands.lean ====
section
/-! DEFINITION. Host writes to a channel group: POST, the seven channel commands, an unassigned command, and the clearing of STRAY. -/

namespace Sys2Proof.Machine

/-- POST (R32): a write to CH_POST. -/
def execPost (d : Dom) (c : Chan) (v : Word) (s : State) : Host.Outcome State Fault Refusal :=
  .next (s.hostWrite d (.ch c .post) fun s => s.postRequest d c v)

/-- START (R42). -/
def execStart (d : Dom) (c : Chan) (s : State) : Host.Outcome State Fault Refusal :=
  .next (s.hostWrite d (.ch c .command) fun s => s.cmdStart c)

/-- STOP (R67 to R69). -/
def execStop (d : Dom) (c : Chan) (s : State) : Host.Outcome State Fault Refusal :=
  .next (s.hostWrite d (.ch c .command) fun s => s.cmdStop c)

/-- FLUSH (R35, R36). -/
def execFlush (d : Dom) (c : Chan) (s : State) : Host.Outcome State Fault Refusal :=
  .next (s.hostWrite d (.ch c .command) fun s => s.cmdFlush c)

/-- RESUME (R82). -/
def execResume (d : Dom) (c : Chan) (s : State) : Host.Outcome State Fault Refusal :=
  .next (s.hostWrite d (.ch c .command) fun s => s.cmdResume c)

/-- RESET_CHANNEL (R83). -/
def execResetChannel (d : Dom) (c : Chan) (s : State) : Host.Outcome State Fault Refusal :=
  .next (s.hostWrite d (.ch c .command) fun s => s.cmdReset c)

/-- DETACH (R155, R106). -/
def execDetach (d : Dom) (c : Chan) (s : State) : Host.Outcome State Fault Refusal :=
  .next (s.hostWrite d (.ch c .command) fun s => s.cmdDetach d c)

/-- ATTACH (R156, R106). -/
def execAttach (d : Dom) (c : Chan) (s : State) : Host.Outcome State Fault Refusal :=
  .next (s.hostWrite d (.ch c .command) fun s => s.cmdAttach d c)

/-- CH_COMMAND_UNASSIGNED (R85): the value is decoded whole, so an unassigned one sets LAST_CMD to IGNORED (log entry 14). -/
def execChCommandUnassigned (d : Dom) (c : Chan) (v : Word) (s : State) : Host.Outcome State Fault Refusal :=
  .next (s.hostWrite d (.ch c .command) fun s => s.chCommand d c v)

/-- CH_PORT_STRAY_CLEAR (R9, R17): a write to CH_PORT with STRAY, bit 19, written as 1. -/
def execChPortStrayClear (d : Dom) (c : Chan) (s : State) : Host.Outcome State Fault Refusal :=
  .next (s.hostWrite d (.ch c .port) fun s => s.writePort c 0x00080000)

end Sys2Proof.Machine
end

