-- ==== Sys2Proof/Machine/DirectCommands.lean ====
section
/-! DEFINITION. The direct commands (R149 to R151). -/

namespace Sys2Proof.Machine

/-- DIRECT_LEAD (R149, R150, R151). -/
def execDirectLead (d : Dom) (p : Chan) (s : State) : Host.Outcome State Fault Refusal :=
  .next (s.hostWrite d .dirCommand fun s => s.directCommand p 1 false .normal)

/-- DIRECT_TURN (R149, R150, R151). -/
def execDirectTurn (d : Dom) (p : Chan) (s : State) : Host.Outcome State Fault Refusal :=
  .next (s.hostWrite d .dirCommand fun s => s.directCommand p 2 false .normal)

/-- DIRECT_PUT (R149, R150, R151). -/
def execDirectPut (d : Dom) (p : Chan) (last : Bool) (s : State) : Host.Outcome State Fault Refusal :=
  .next (s.hostWrite d .dirCommand fun s => s.directCommand p 3 last .normal)

/-- DIRECT_GET (R149, R150, R151). -/
def execDirectGet (d : Dom) (p : Chan) (last : Bool) (s : State) : Host.Outcome State Fault Refusal :=
  .next (s.hostWrite d .dirCommand fun s => s.directCommand p 4 last .normal)

/-- DIRECT_ASK (R149, R150, R151). -/
def execDirectAsk (d : Dom) (p : Chan) (s : State) : Host.Outcome State Fault Refusal :=
  .next (s.hostWrite d .dirCommand fun s => s.directCommand p 5 false .normal)

/-- DIRECT_CLOSE (R149, R150, R151). -/
def execDirectClose (d : Dom) (p : Chan) (code : CloseCode) (s : State) : Host.Outcome State Fault Refusal :=
  .next (s.hostWrite d .dirCommand fun s => s.directCommand p 6 false code)

/-- DIRECT_INVALID_KIND (R149): KIND 0 or 7 is rejected, unless the slot is busy (log entry 14 for another kind). -/
def execDirectInvalidKind (d : Dom) (p : Chan) (k : BitVec 3) (s : State) : Host.Outcome State Fault Refusal :=
  .next (s.hostWrite d .dirCommand fun s => s.directCommand p k false .normal)

end Sys2Proof.Machine
end

