-- ==== Sys2Proof/Machine/HubCommands.lean ====
section
/-! DEFINITION. Hub commands: HUB_RESET, ENTER_QUIESCE, RESUME_ALL and an unassigned command. -/

namespace Sys2Proof.Machine

/-- HUB_RESET (R176). -/
def execHubReset (d : Dom) (s : State) : Host.Outcome State Fault Refusal :=
  .next (s.hostWrite d .hubCommand fun s => s.resetHub)

/-- ENTER_QUIESCE (R177, R178). -/
def execEnterQuiesce (d : Dom) (s : State) : Host.Outcome State Fault Refusal :=
  .next (s.hostWrite d .hubCommand fun s => s.cmdEnterQuiesce)

/-- RESUME_ALL (R177, R182). -/
def execResumeAll (d : Dom) (s : State) : Host.Outcome State Fault Refusal :=
  .next (s.hostWrite d .hubCommand fun s => s.cmdResumeAll)

/-- HUB_COMMAND_UNASSIGNED (R177): the value is decoded whole, so an unassigned one sets LAST_CMD to IGNORED (log entry
14). -/
def execHubCommandUnassigned (d : Dom) (v : Word) (s : State) : Host.Outcome State Fault Refusal :=
  .next (s.hostWrite d .hubCommand fun s => s.hubCommand v)

end Sys2Proof.Machine
end

