-- ==== Sys2Proof/Machine/LinkEvents.lean ====
section
/-! DEFINITION. Events on a Threadline port: ANSWER, NO_ANSWER, HAIL_RISE, HAIL_FALL, READY_CHANGE. -/

namespace Sys2Proof.Machine

/-- The stray-answer flag is set (R7). -/
def State.strayAnswer (s : State) (c : Chan) : State := s.modPort c fun p => { p with stray := true }

/-- ANSWER (R4, R5, R7): a matching answer completes the outstanding transaction and is delivered to its issuer; any other
is stray. While RESET is asserted the hub is held in its reset values (R174). -/
def execAnswer (c : Chan) (code : AnswerCode) (kind : BitVec 3) (seq : BitVec 8) (word : Option Word) (s : State) :
    Host.Outcome State Fault Refusal :=
  if s.resetAsserted then .next s
  else
    match (s.port c).outstanding with
    | none => .next (s.strayAnswer c)
    | some t =>
      if t.matchedBy code kind seq word then .next (s.deliver c t (t.resultOf code word)).settle
      else .next (s.strayAnswer c)

/-- NO_ANSWER (R8): the answer timer expires at its last counted boundary while a transaction is outstanding. A timer that
is not due does not expire (R172), and nothing happens (log entry 3). -/
def execNoAnswer (c : Chan) (s : State) : Host.Outcome State Fault Refusal :=
  match (s.port c).outstanding with
  | none => .next s
  | some t => if (s.port c).timer = .due then .next (s.deliver c t .noAnswer).settle else .next s

/-- HAIL_RISE (R14, R15, R143, R51, R56): the flag decides whether the rise is new; a new rise is served or latches the
channel's source; a channel waiting in its data phase sees HAIL. During INITIALISING only the level changes (R14). -/
def execHailRise (c : Chan) (s : State) : Host.Outcome State Fault Refusal :=
  if (s.port c).hail then .next s
  else if s.hubState = .initialising then .next (s.modPort c fun p => { p with hail := true })
  else
    let seen := (s.port c).hailSeen
    let s1 := s.modPort c fun p => { p with hail := true, hailSeen := true }
    let s2 := if seen then s1 else s1.newHail c
    .next (s2.reexamine c).settle

/-- HAIL_FALL (R14, R15): the fall clears the hail-seen flag; during INITIALISING only the level changes. -/
def execHailFall (c : Chan) (s : State) : Host.Outcome State Fault Refusal :=
  if (s.port c).hail = false then .next s
  else if s.hubState = .initialising then .next (s.modPort c fun p => { p with hail := false })
  else .next (s.modPort c fun p => { p with hail := false, hailSeen := false })

/-- READY_CHANGE (R13, R51): a channel waiting at a data decision point applies the lines of R51 again. -/
def execReadyChange (c : Chan) (level : Bool) (s : State) : Host.Outcome State Fault Refusal :=
  .next ((s.modPort c fun p => { p with ready := level }).reexamine c).settle

end Sys2Proof.Machine
end

