-- ==== Sys2Proof/Machine/MemoryEvents.lean ====
section
/-! DEFINITION. The memory port and the staging store: MEMORY_ISSUE, MEMORY_RESPONSE, MEMORY_TIMEOUT, STORE_ACCESS_DONE, APERTURE_READ, APERTURE_WRITE, STORAGE_FAILURE. -/

namespace Sys2Proof.Machine

/-- The interconnect takes the presented request of channel c (R125, R126, R127): the slot becomes OUTSTANDING with the
access number, its timer starts with MEM_TIMEOUT, the number advances and the service pointer moves. -/
def State.issue (s : State) (c : Chan) (a : Access) : State :=
  ({ s.modMem c fun m =>
        { m with slot := .outstanding a m.number (Timer.start s.memTimeout.toNat), number := m.number + 1 } with
      servicePointer := c, presented := none } : State).emit (.memoryRequest c (s.mem c).number a)

/-- MEMORY_ISSUE (R125): the presented request is taken, and the next is presented; with none presented there is nothing to
take (log entry 3). -/
def execMemoryIssue (s : State) : Host.Outcome State Fault Refusal :=
  match s.presented with
  | none => .next s
  | some c =>
    match (s.mem c).slot with
    | .requested a => .next (s.issue c a).settle
    | _ => .next s

/-- MEMORY_RESPONSE (R126, R127, R128): a matching response completes the access and hands its result to the channel, or
frees an ABANDONED slot; any other response is discarded. -/
def execMemoryResponse (c : Chan) (number : BitVec 8) (r : MemResponse) (s : State) : Host.Outcome State Fault Refusal :=
  match (s.mem c).slot with
  | .outstanding a k _ =>
    if k = number then .next ((s.modMem c MemSlot.free).accessResult c (a.memoryResult r)).settle else .next s
  | .abandoned k _ => if k = number then .next (s.modMem c MemSlot.free).settle else .next s
  | _ => .next s

/-- MEMORY_TIMEOUT (R127, R128): the memory response timer is due; the slot becomes EMPTY, and the channel that still wants
the access receives MEMORY_TIMEOUT. A timer that is not due does not expire (log entry 3). -/
def execMemoryTimeout (c : Chan) (s : State) : Host.Outcome State Fault Refusal :=
  match (s.mem c).slot with
  | .outstanding _ _ .due => .next ((s.modMem c MemSlot.free).accessResult c (.failed .memoryTimeout)).settle
  | .abandoned _ .due => .next (s.modMem c MemSlot.free).settle
  | _ => .next s

/-- A channel's granted access completes in the store; its result reaches the channel only if it is still wanted (R84,
R133). -/
def State.storeChannelDone (s : State) (c : Chan) (a : Access) (wanted : Bool) : State :=
  let s1 := { s with store := a.storeEffect s.store }
  if wanted then s1.accessResult c (a.storeResult s.store) else s1

/-- STORE_ACCESS_DONE (R133, R134): the granted access completes, and the store is free for the next grant. -/
def execStoreAccessDone (s : State) : Host.Outcome State Fault Refusal :=
  match s.granted with
  | none => .next s
  | some (.host r) => .next (State.hostAccessDone { s with granted := none } r).settle
  | some (.channel c a w) => .next (State.storeChannelDone { s with granted := none } c a w).settle

/-- APERTURE_READ (R103, R114, R134). -/
def execApertureRead (d : Dom) (size : Size) (off : ApertureOffset) (s : State) : Host.Outcome State Fault Refusal :=
  .next (s.apertureAccess d size off .read)

/-- APERTURE_WRITE (R103, R114, R134). -/
def execApertureWrite (d : Dom) (size : Size) (off : ApertureOffset) (v : Word) (s : State) :
    Host.Outcome State Fault Refusal :=
  .next (s.apertureAccess d size off (.write v))

/-- STORAGE_FAILURE (R129): the word now holds the value, and its check bit disagrees; nothing else changes until it is
read. -/
def execStorageFailure (w : StoreIndex) (v : Word) (s : State) : Host.Outcome State Fault Refusal :=
  .next { s with store := s.store.put w.toNat (StoreWord.disagreeing v) }

end Sys2Proof.Machine
end

