-- ==== Sys2Proof/Machine/ResetEvents.lean ====
section
/-! DEFINITION. Resets and the supply warning: POWER_ON_RESET, RESET_RELEASE, INITIALISATION_END, SUPPLY_WARN_ASSERT, SUPPLY_WARN_DEASSERT. -/

namespace Sys2Proof.Machine

/-- POWER_ON_RESET (R174): everything is abandoned and the hub is held in its reset values, whatever it was doing. -/
def execPowerOnReset (s : State) : Host.Outcome State Fault Refusal := .next s.powerOn

/-- RESET_RELEASE (R171, R174): the hub enters INITIALISING and the timebase starts. -/
def execResetRelease (s : State) : Host.Outcome State Fault Refusal :=
  .next { s with resetAsserted := false }

/-- INITIALISATION_END (R175): only a hub that is INITIALISING with RESET released ends its initialisation (log entry 3). -/
def execInitialisationEnd (s : State) : Host.Outcome State Fault Refusal :=
  if s.hubState = .initialising ∧ s.resetAsserted = false then .next s.endInitialisation else .next s

/-- SUPPLY_WARN_ASSERT (R178): an OPERATIONAL hub enters QUIESCING. -/
def execSupplyWarnAssert (s : State) : Host.Outcome State Fault Refusal :=
  if s.hubState = .operational then .next (State.enterQuiescing { s with supplyWarn := true }).settle
  else .next { s with supplyWarn := true }

/-- SUPPLY_WARN_DEASSERT (R181): only HUB_STATUS.WARN changes. -/
def execSupplyWarnDeassert (s : State) : Host.Outcome State Fault Refusal := .next { s with supplyWarn := false }

end Sys2Proof.Machine
end

