-- ==== Sys2Proof/Machine/RunEvents.lean ====
section
/-! DEFINITION. TAKE_RUN. -/

namespace Sys2Proof.Machine

/-- TAKE_RUN (R43, R44, R45): a channel whose start conditions all hold takes the head entry and begins its load; in any
other state it takes none (log entry 3). -/
def execTakeRun (c : Chan) (s : State) : Host.Outcome State Fault Refusal :=
  if s.canTake c then
    match (s.ch c).queue with
    | [] => .next s
    | e :: rest => .next ((s.modCh c fun ch => ch.take e rest).beginLoad c).settle
  else .next s

end Sys2Proof.Machine
end

