-- ==== Sys2Proof/Machine/TimerEvents.lean ====
section
/-! DEFINITION. Ticks and the expiries of the ready and pace timers: NOT_READY, PACE_EXPIRY, TICK. -/

namespace Sys2Proof.Machine

/-- One of lines 1 to 4 of R51 holds for the channel. -/
def State.lineHolds (s : State) (c : Chan) : Bool :=
  (s.ch c).stopPending || s.hubState == .quiescing || (s.port c).hail || (s.port c).ready

/-- NOT_READY (R51, R64): the ready timer is due at a data decision point; a line that holds decides, and otherwise the run
ends with the NOT_READY fault. A timer that is not due does not expire (log entry 3). -/
def execNotReady (c : Chan) (s : State) : Host.Outcome State Fault Refusal :=
  if (s.ch c).state = .data ∧ s.wait c = .ready ∧ (s.ch c).readyTimer = .due then
    if s.lineHolds c then .next (s.decide c).settle
    else .next (s.faultAbort c .notReady (s.ch c).run.dataStep 0).settle
  else .next s

/-- PACE_EXPIRY (R56): the pace timer is due; STOP, quiesce or HAIL prevails, and otherwise the next repetition is made
ready. A timer that is not due does not expire (log entry 3). -/
def execPaceExpiry (c : Chan) (s : State) : Host.Outcome State Fault Refusal :=
  if (s.ch c).state = .pacing ∧ (s.ch c).paceTimer = .due then
    .next (s.boundary c fun s =>
      if (s.port c).hail then s.hailEnding c
      else (s.modCh c fun ch => { ch with paceTimer := .stopped }).startRepetition c).settle
  else .next s

/-- TICK (R171, R172): a tick boundary; the timebase runs from the release of RESET on. -/
def execTick (s : State) : Host.Outcome State Fault Refusal :=
  if s.resetAsserted then .next s else .next s.tickAll

end Sys2Proof.Machine
end

