-- ==== Sys2Proof/Machine/WindowCommands.lean ====
section
/-! DEFINITION. Other accesses to the control window: REGISTER_WRITE and REGISTER_ACCESS_VIOLATION. -/

namespace Sys2Proof.Machine

/-- REGISTER_WRITE (R184, R185, R187): a host write at any offset and width. -/
def execRegisterWrite (d : Dom) (size : Size) (off : Offset) (v : Word) (s : State) : Host.Outcome State Fault Refusal :=
  .next (s.writeWindow d size off v)

/-- REGISTER_ACCESS_VIOLATION (R105): a refused read answers 0 and a refused write is ignored, and a REGISTER_ACCESS trap is
recorded. An access that R104 grants acts as the access it is (log entry 14). -/
def execRegisterAccessViolation (d : Dom) (off : Offset) (a : HostAccess) (s : State) :
    Host.Outcome State Fault Refusal :=
  match a with
  | .write v => .next (s.writeWindow d .word off v)
  | .read =>
    let s1 := if actedOn .word off then s.guarded d off fun s => s else s
    .next (s1.emit (.hostResponse d (s.readWindow d .word off) false))

end Sys2Proof.Machine
end

