-- ==== Sys2Proof/Machine/Dispatch.lean ====
section
/-! DEFINITION. The effect of each command on everything but the queue: one arm per row of the table, each one call of its
meaning. -/

namespace Sys2Proof.Machine

def exec (i : Instr) (s : State) : Host.Outcome State Fault Refusal :=
  match i with
  | .answer p a k q w => Sys2Proof.Machine.execAnswer p a k q w s
  | .noAnswer p => Sys2Proof.Machine.execNoAnswer p s
  | .hailRise p => Sys2Proof.Machine.execHailRise p s
  | .hailFall p => Sys2Proof.Machine.execHailFall p s
  | .readyChange p b => Sys2Proof.Machine.execReadyChange p b s
  | .notReady c => Sys2Proof.Machine.execNotReady c s
  | .paceExpiry c => Sys2Proof.Machine.execPaceExpiry c s
  | .tick => Sys2Proof.Machine.execTick s
  | .takeRun c => Sys2Proof.Machine.execTakeRun c s
  | .memoryIssue => Sys2Proof.Machine.execMemoryIssue s
  | .memoryResponse c n r => Sys2Proof.Machine.execMemoryResponse c n r s
  | .memoryTimeout c => Sys2Proof.Machine.execMemoryTimeout c s
  | .storeAccessDone => Sys2Proof.Machine.execStoreAccessDone s
  | .apertureRead d z o => Sys2Proof.Machine.execApertureRead d z o s
  | .apertureWrite d z o v => Sys2Proof.Machine.execApertureWrite d z o v s
  | .post d c v => Sys2Proof.Machine.execPost d c v s
  | .start d c => Sys2Proof.Machine.execStart d c s
  | .stop d c => Sys2Proof.Machine.execStop d c s
  | .flush d c => Sys2Proof.Machine.execFlush d c s
  | .resume d c => Sys2Proof.Machine.execResume d c s
  | .resetChannel d c => Sys2Proof.Machine.execResetChannel d c s
  | .detach d c => Sys2Proof.Machine.execDetach d c s
  | .attach d c => Sys2Proof.Machine.execAttach d c s
  | .chCommandUnassigned d c v => Sys2Proof.Machine.execChCommandUnassigned d c v s
  | .chPortStrayClear d c => Sys2Proof.Machine.execChPortStrayClear d c s
  | .hubReset d => Sys2Proof.Machine.execHubReset d s
  | .enterQuiesce d => Sys2Proof.Machine.execEnterQuiesce d s
  | .resumeAll d => Sys2Proof.Machine.execResumeAll d s
  | .hubCommandUnassigned d v => Sys2Proof.Machine.execHubCommandUnassigned d v s
  | .logPop d l => Sys2Proof.Machine.execLogPop d l s
  | .logThresholdWrite d l v => Sys2Proof.Machine.execLogThresholdWrite d l v s
  | .grdAssign d v => Sys2Proof.Machine.execGrdAssign d v s
  | .grdTrapAck d => Sys2Proof.Machine.execGrdTrapAck d s
  | .scrHitsClear d e => Sys2Proof.Machine.execScrHitsClear d e s
  | .evcClear d v => Sys2Proof.Machine.execEvcClear d v s
  | .directLead d p => Sys2Proof.Machine.execDirectLead d p s
  | .directTurn d p => Sys2Proof.Machine.execDirectTurn d p s
  | .directPut d p b => Sys2Proof.Machine.execDirectPut d p b s
  | .directGet d p b => Sys2Proof.Machine.execDirectGet d p b s
  | .directAsk d p => Sys2Proof.Machine.execDirectAsk d p s
  | .directClose d p a => Sys2Proof.Machine.execDirectClose d p a s
  | .directInvalidKind d p k => Sys2Proof.Machine.execDirectInvalidKind d p k s
  | .registerWrite d z o v => Sys2Proof.Machine.execRegisterWrite d z o v s
  | .registerAccessViolation d o a => Sys2Proof.Machine.execRegisterAccessViolation d o a s
  | .powerOnReset => Sys2Proof.Machine.execPowerOnReset s
  | .resetRelease => Sys2Proof.Machine.execResetRelease s
  | .initialisationEnd => Sys2Proof.Machine.execInitialisationEnd s
  | .supplyWarnAssert => Sys2Proof.Machine.execSupplyWarnAssert s
  | .supplyWarnDeassert => Sys2Proof.Machine.execSupplyWarnDeassert s
  | .storageFailure w v => Sys2Proof.Machine.execStorageFailure w v s

end Sys2Proof.Machine
end

