-- ==== Sys2Proof/Machine/Moment.lean ====
section
/-! DEFINITION. Commands that the hub observes at one moment (00_scope.md, 4.2; R143): the order in which their steps are taken,
and what the moment leaves. A command that the queue hands to `step` is a moment of its own; several commands of one moment are
`State.moment` (log entry 1). -/

namespace Sys2Proof.Machine

/-! ### The parts of a moment -/

/-- The domain whose host access the command is (R103); none for an event at a port, at the memory port, in the store or of the
hub itself. -/
def senderOf (i : Instr) : Option Dom :=
  match i with
  | .apertureRead d _ _ | .apertureWrite d _ _ _ | .post d _ _ | .start d _ | .stop d _ | .flush d _ | .resume d _
  | .resetChannel d _ | .detach d _ | .attach d _ | .chCommandUnassigned d _ _ | .chPortStrayClear d _ | .hubReset d
  | .enterQuiesce d | .resumeAll d | .hubCommandUnassigned d _ | .logPop d _ | .logThresholdWrite d _ _ | .grdAssign d _
  | .grdTrapAck d | .scrHitsClear d _ | .evcClear d _ | .directLead d _ | .directTurn d _ | .directPut d _ _
  | .directGet d _ _ | .directAsk d _ | .directClose d _ _ | .directInvalidKind d _ _ | .registerWrite d _ _ _
  | .registerAccessViolation d _ _ => some d
  | .answer .. | .noAnswer .. | .hailRise .. | .hailFall .. | .readyChange .. | .notReady .. | .paceExpiry .. | .tick
  | .takeRun .. | .memoryIssue | .memoryResponse .. | .memoryTimeout .. | .storeAccessDone | .powerOnReset
  | .resetRelease | .initialisationEnd | .supplyWarnAssert | .supplyWarnDeassert | .storageFailure .. => none

/-- The channel whose step the command takes, for the ascending order of channels at one moment (R93, R116, R142). -/
def State.momentChannel (s : State) (i : Instr) : Nat :=
  match i with
  | .answer p _ _ _ _ | .noAnswer p | .hailRise p | .hailFall p | .readyChange p _ => p.val
  | .notReady c | .paceExpiry c | .takeRun c | .memoryResponse c _ _ | .memoryTimeout c => c.val
  | .memoryIssue =>
    match s.presented with
    | some c => c.val
    | none => 0
  | .storeAccessDone =>
    match s.granted with
    | some (.channel c _ _) => c.val
    | _ => 0
  | _ => 0

/-- A command of group 2 of R143 is taken in the ascending order of the channels, and an expiry after the event that its timer
awaits (R8, R127). -/
def momentExpiry (i : Instr) : Nat :=
  match i with
  | .noAnswer _ | .memoryTimeout _ | .notReady _ | .paceExpiry _ => 1
  | _ => 0

/-- The rank of one of the hub's own steps in a moment. A tick boundary comes before what starts at it (R172) and a change of
SUPPLY_WARN before the other steps (R177, R178). Then come, in the order of R143, the answers, responses, store completions and
expiries, with the pending changes they bring; the hail rises; and last the taking of a run. A hail rise comes before a change of
READY (lines 3 and 4 of R51), a hail fall after both (R15), and the end of initialisation after the hail events, which it does
not record (R14, R175). That a storage failure comes before a completing store access, so that a read finds it and a write
mends it, is the model's choice (R129 gives no order: log entry 27). So is a change of READY after the answers (log entry 1), and so is the place of a change of RESET, after every other event of
the moment (log entry 29). -/
def momentRank (i : Instr) : Nat :=
  match i with
  | .tick => 0
  | .supplyWarnAssert | .supplyWarnDeassert => 1
  | .storageFailure _ _ => 2
  | .answer _ _ _ _ _ | .noAnswer _ | .memoryIssue | .memoryResponse _ _ _ | .memoryTimeout _ | .storeAccessDone
  | .notReady _ | .paceExpiry _ => 3
  | .hailRise _ => 4
  | .readyChange _ _ => 5
  | .hailFall _ => 6
  | .initialisationEnd => 7
  | .takeRun _ => 8
  | .apertureRead _ _ _ | .apertureWrite _ _ _ _ | .post _ _ _ | .start _ _ | .stop _ _ | .flush _ _ | .resume _ _
  | .resetChannel _ _ | .detach _ _ | .attach _ _ | .chCommandUnassigned _ _ _ | .chPortStrayClear _ _ | .hubReset _
  | .enterQuiesce _ | .resumeAll _ | .hubCommandUnassigned _ _ | .logPop _ _ | .logThresholdWrite _ _ _ | .grdAssign _ _
  | .grdTrapAck _ | .scrHitsClear _ _ | .evcClear _ _ | .directLead _ _ | .directTurn _ _ | .directPut _ _ _
  | .directGet _ _ _ | .directAsk _ _ | .directClose _ _ _ | .directInvalidKind _ _ _ | .registerWrite _ _ _ _
  | .registerAccessViolation _ _ _ => 9
  | .resetRelease => 10
  | .powerOnReset => 11

/-- The channel takes a run whose descriptor fails its range check (step 1 of R45): the taking violates (R116) and its record is
offered (R93) in the same step. -/
def State.violatesAtTake (s : State) (i : Instr) : Bool :=
  match i with
  | .takeRun c =>
    match (s.ch c).queue with
    | [] => false
    | e :: _ => !s.rangeOk e.poster (postedSpace e.posted) (postedAddr e.posted) 8
  | _ => false

/-- The rank of one of the hub's own steps among the others of its moment. A taking of a run that violates goes to its channel's
place among the steps of group 2, behind the channel's hail rise, so that violations and offers are ascending by channel (R93,
R116). R143 puts the taking of a run last: that R93 and R116 prevail here is the model's choice (log entry 26). -/
def State.rankIn (s : State) (is : List Instr) (i : Instr) : Nat :=
  if s.violatesAtTake i then 3
  else
    match i with
    | .hailRise c => if .takeRun c ∈ is ∧ s.violatesAtTake (.takeRun c) = true then 3 else momentRank i
    | _ => momentRank i

/-- The place of a command among those of its channel and rank. -/
def placeInChannel (i : Instr) : Nat :=
  match i with
  | .takeRun _ => 3
  | .hailRise _ => 2
  | i => momentExpiry i

/-- Steps of the hub's own are taken in the ascending order of this key: rank, channel, place. -/
def State.momentKey (s : State) (is : List Instr) (i : Instr) : Nat :=
  s.rankIn is i * 32 + s.momentChannel i * 4 + placeInChannel i

/-- Puts a command after every one whose key is not greater, so that commands of one key keep the order in which they were
given. -/
def insertByKey (key : Instr → Nat) (i : Instr) : List Instr → List Instr
  | [] => [i]
  | j :: rest => if key j ≤ key i then j :: insertByKey key i rest else i :: j :: rest

/-- The commands in the ascending order of their keys. -/
def sortByKey (key : Instr → Nat) (is : List Instr) : List Instr := is.foldl (fun taken i => insertByKey key i taken) []

/-! ### What prevails -/

/-- HAIL that falls and rises at one moment is no change, and neither is recorded (R14). The same for a HAIL that rises and falls
at one moment, of which R14 does not speak, is the model's choice (log entry 1). -/
def noHailChange (is : List Instr) (i : Instr) : Bool :=
  match i with
  | .hailRise c => is.contains (.hailFall c)
  | .hailFall c => is.contains (.hailRise c)
  | _ => false

/-- The step of the hub's own is an event that the expiring ready or pace timer awaits (R51, R56, R172). -/
def awaitedBy (expiry i : Instr) : Bool :=
  match expiry, i with
  | .notReady c, .readyChange p level => p == c && level
  | .notReady c, .hailRise p | .paceExpiry c, .hailRise p => p == c
  | _, _ => false

/-- An event that the expiring timer awaits is among the hub's own steps of the moment: the expiry is taken after it, and then has
no effect (R51, R56, R172). -/
def overtaken (steps : List Instr) (expiry : Instr) : Bool := steps.any (awaitedBy expiry)

/-- The Guard permits the domain's write to the register (R103). -/
def State.permits (s : State) (d : Dom) (r : Reg) : Bool := s.verdict d r.offset == .permitted

/-- The host access is an event that the expiring ready or pace timer awaits (R51, R56, R172): a STOP of the channel that the Guard
permits, for one that it refuses is no command (R85); or the ENTER_QUIESCE at which an OPERATIONAL hub enters QUIESCING (R177). -/
def State.awaitedAccess (s : State) (expiry access : Instr) : Bool :=
  match expiry, access with
  | .notReady c, .stop d p | .paceExpiry c, .stop d p => p == c && s.permits d (.ch p .command)
  | .notReady _, .enterQuiesce d | .paceExpiry _, .enterQuiesce d => d == 0 && s.hubState == .operational
  | _, _ => false

/-- The step is an expiry of a timer that awaits the moment's host access: it is taken after the access, and then has no effect
(R51, R56, R172). -/
def State.comesAfterAccess (s : State) (access : Option Instr) (i : Instr) : Bool := access.any (s.awaitedAccess i)

/-- The host access is taken before the hub's own steps of its moment: an acknowledgement of the trap slot, since a violation
fills the emptied slot (R117), and a write to EVC_CLEAR, since a setting event leaves the source set (R163). -/
def clearsFirst (i : Instr) : Bool :=
  match i with
  | .grdTrapAck d | .evcClear d _ => d == 0
  | _ => false

/-- The access asks for the store: it arrives before the moment's grant (R132). -/
def asksStore (i : Instr) : Bool :=
  match i with
  | .apertureRead _ _ _ | .apertureWrite _ _ _ _ => true
  | _ => false

/-- The command is a change of the RESET input. The spec orders it against no other event of its moment (R174 does not); that it
comes after all of them, a host access and what it puts out included, is the model's choice (log entry 29). -/
def changesReset (i : Instr) : Bool :=
  match i with
  | .powerOnReset | .resetRelease => true
  | _ => false

/-! ### The order -/

/-- A moment: the commands taken before the store is granted and a request presented; the host access that is decided in the
state which the hub's own steps and that grant leave, if there is one; and the commands taken after it. -/
structure Moment where
  counted : List Instr
  access : Option Instr
  after : List Instr
  deriving DecidableEq, Repr

/-- The moment that the commands make. Host accesses are decided in the order of their delivery, one at a time (R33, R85, R103,
R184): only the first of them falls into the moment, after the hub's own steps, and each further one is a moment of its own. A
change of RESET stands between the two, by the model's choice (log entry 29). -/
def State.momentOf (s : State) (is : List Instr) : Moment :=
  let steps := is.filter fun i => (senderOf i).isNone
  let own := steps.filter fun i => !noHailChange steps i
  let accesses := is.filter fun i => (senderOf i).isSome
  let first := accesses.head?
  let late := s.comesAfterAccess first
  let lost := fun i => overtaken own i && !late i
  let sorted := sortByKey (s.momentKey own) (own.filter fun i => !late i && !lost i && !changesReset i)
  let whenFirst := fun p => first.toList.filter p
  { counted := whenFirst clearsFirst ++ sorted ++ own.filter lost ++ whenFirst asksStore,
    access := first.filter fun a => !clearsFirst a && !asksStore a,
    after := own.filter late ++ sortByKey momentRank (own.filter changesReset) ++ accesses.tail }

/-- Commands observed at one moment, in the order in which the spec takes their steps. -/
def State.inOrder (s : State) (is : List Instr) : List Instr :=
  (s.momentOf is).counted ++ (s.momentOf is).access.toList ++ (s.momentOf is).after

/-! ### What a moment leaves -/

/-- The state after one command. -/
def State.afterCommand (s : State) (i : Instr) : State :=
  match exec i s with
  | .next t => t
  | _ => s

/-- A grant made in the step from s to t is put off: the request waits again, and the arbiter's state is that of s. -/
def State.withoutGrant (s t : State) : State :=
  match t.granted with
  | none => t
  | some (.host r) =>
    { t with granted := none, hostWaiting := r :: t.hostWaiting, lastGranted := s.lastGranted, hostRun := s.hostRun }
  | some (.channel c a _) =>
    { t.setStoreReq c (some a) with granted := none, lastGranted := s.lastGranted, hostRun := s.hostRun }

/-- One command of a moment in which further requests may arrive: its effect, with the grant of a free store (R132) and the
presentation at a free memory port (R125) put off to the moment's end. -/
def State.takeCounted (s : State) (i : Instr) : State :=
  let t := s.afterCommand i
  let t := if s.granted.isNone || i == .storeAccessDone then s.withoutGrant t else t
  if s.presented.isNone || i == .memoryIssue then { t with presented := none } else t

/-- The command is an answer at the port that is a stray one in this state (R7). -/
def State.isStray (s : State) (c : Chan) (i : Instr) : Bool :=
  match i with
  | .answer p code kind seq word =>
    p == c &&
      match (s.port p).outstanding with
      | none => true
      | some t => !t.matchedBy code kind seq word
  | _ => false

/-- Among the steps, taken from this state on, an answer arrives at the port that is a stray one where it is taken (R4, R7). -/
def State.strayArrives (s : State) (c : Chan) (steps : List Instr) : Bool :=
  match steps with
  | [] => false
  | i :: rest => s.isStray c i || (s.takeCounted i).strayArrives c rest

/-- What the moment's host access leaves, decided in the state t that the hub's own steps have left, which were taken from the
state s. A write of 1 to STRAY does not clear a flag that a stray answer of the same moment has set: the setting prevails (R9). -/
def State.afterAccess (s t : State) (steps : List Instr) (access : Instr) : State :=
  match access with
  | .chPortStrayClear _ c =>
    if s.strayArrives c steps && (t.port c).stray then (t.afterCommand access).strayAnswer c else t.afterCommand access
  | _ => t.afterCommand access

/-- What the hub does with commands observed at one moment. Requests that arrive at the moment at which the store becomes free are
counted as waiting (R132), so the one grant of the moment is made after them; it comes before the host access (R133, R143). That
one request of all that have arrived is presented at the memory port is the model's reading of R125 (log entry 28). -/
def State.moment (s : State) (is : List Instr) : State :=
  let m := s.momentOf is
  let left := (m.counted.foldl State.takeCounted s).settle
  let decided := match m.access with
    | none => left
    | some a => s.afterAccess left m.counted a
  m.after.foldl State.afterCommand decided

end Sys2Proof.Machine
end

