-- ==== Sys2Proof/Safety.lean ====
section
/-! DEFINITION. What a safe run of the hub keeps, in the terms the claims use: who reaches which register, and the invariants
of the machine. -/

namespace Sys2Proof.Machine

/-! ### Who reaches what (R103, R104) -/

/-- A write of the domain to the channel's register group reaches the channel: the hub is past INITIALISING, and the domain is
the supervisor or owns the channel. -/
def State.reachesChannel (s : State) (d : Dom) (c : Chan) : Prop :=
  s.hubState ≠ .initialising ∧ (d = 0 ∨ (s.ch c).domain = d)

/-- A write of the domain to the log's window reaches the log. -/
def State.reachesLog (s : State) (d l : Dom) : Prop := s.hubState ≠ .initialising ∧ (d = 0 ∨ d = l)

/-- A write of the domain to a region reserved to domain 0 reaches its block. -/
def State.reachesHub (s : State) (d : Dom) : Prop := s.hubState ≠ .initialising ∧ d = 0

/-- The command is the row that it is named after: its operands are well formed, and an access named a violation is one that the
Guard refuses (R105). -/
def State.fits (s : State) (i : Instr) : Prop :=
  i.wellFormed = true ∧ ∀ d off a, i = .registerAccessViolation d off a → s.grants d off = false

/-! ### The channel's own condition -/

/-- The channel is IDLE or HALTED: it conducts nothing. -/
def Channel.resting (ch : Channel) : Prop := ch.state = .idle ∨ ch.state = .halted

/-- The channel stands at a data decision point, waiting for READY (R51, line 5). -/
def State.waitsForReady (s : State) (c : Chan) : Prop := (s.ch c).state = .data ∧ s.wait c = .ready

/-- Nothing ends the data phase or the pacing of the channel: no STOP is pending, the hub is not QUIESCING and HAIL is
deasserted (lines 1 to 3 of R51; R56). -/
def State.undisturbed (s : State) (c : Chan) : Prop :=
  (s.ch c).stopPending = false ∧ s.hubState ≠ .quiescing ∧ (s.port c).hail = false

/-- The port controller has sent a transaction (R3, R6): it is recorded with the sequence count, the answer timer runs with the
channel's ANSWER_TIMEOUT, 0 being no limit, and the count has advanced. -/
def Port.sending (p : Port) (timeout : BitVec 12) (issuer : Issuer) (k : Kind) : Port :=
  { p with outstanding := some { kind := k, seq := p.seq, issuer := issuer },
           timer := if timeout = 0 then .unlimited else .running timeout.toNat, seq := p.seq + 1 }

/-- The channel's engine has sent a transaction with its payload on its port (R3, R47). -/
def State.sends (s : State) (c : Chan) (k : Kind) (payload : Payload) : State :=
  (s.modPort c fun p => p.sending (s.ch c).answerTimeout .channel k).emit (.transaction c k (s.port c).seq payload)

/-! ### Invariants -/

/-- The store keeps its canonical form. -/
def State.storeCanonical (s : State) : Prop := s.store.wf = true

/-- A port's answer timer is stopped exactly while no transaction is outstanding (R5, R6, R8, R10). -/
def State.timersFollowLinks (s : State) : Prop :=
  ∀ c, (s.port c).outstanding = none ↔ (s.port c).timer = .stopped

/-- No queue and no log is over its depth, and no threshold over 16 (R31, R91, R99). -/
def State.withinBounds (s : State) : Prop :=
  (∀ c, (s.ch c).queue.length ≤ 6) ∧ (∀ d, (s.log d).records.length ≤ 16) ∧ ∀ d, (s.log d).threshold.toNat ≤ 16

/-- What the logs and the channels that wait on them keep (R36, R92 to R96). -/
structure State.logsConsistent (s : State) : Prop where
  /-- A channel is in LOGGING exactly while it holds a record (R96). -/
  holding : ∀ c, (s.ch c).state = .logging ↔ (s.ch c).held.isSome
  /-- The channels on a log's waiting list are those of its domain that hold a record (R94, R98). -/
  waiters : ∀ d c, c ∈ (s.log d).waiting ↔ (s.ch c).held.isSome ∧ (s.ch c).domain = d
  /-- A channel is on a waiting list at most once (R94). -/
  once : ∀ d, (s.log d).waiting.Nodup
  /-- A log on which a channel waits holds 16 records (R92, R98). -/
  full : ∀ d, (s.log d).waiting ≠ [] → (s.log d).records.length = 16
  /-- A channel in IDLE or HALTED has a pending flush count of 0 (R36). -/
  flushed : ∀ c, (s.ch c).resting → (s.ch c).flushCount = 0

/-- No step leaves undone what comes about as soon as its condition holds. -/
structure State.caughtUp (s : State) : Prop where
  /-- A pending detach waits only for a channel that is neither IDLE nor HALTED (R155). -/
  detach : ∀ c, (s.ch c).detachPending = true → ¬ (s.ch c).resting
  /-- A pending domain change waits only for a channel that is not empty (R120). -/
  domain : ∀ c, (s.ch c).pendingDomain.isSome → (s.ch c).empty = false
  /-- While the store is free, no request waits at the staging arbiter (R132). -/
  store : s.granted = none → s.hostWaiting = [] ∧ ∀ c, s.storeReq c = none
  /-- While no request is presented, no slot is REQUESTED (R125). -/
  idlePort : s.presented = none → ∀ c, (s.mem c).isRequested = false
  /-- A presented request is one of a REQUESTED slot (R125, R128). -/
  presents : ∀ c, s.presented = some c → (s.mem c).isRequested = true
  /-- A QUIESCING hub is not at rest (R180). -/
  quiesce : s.hubState = .quiescing → s.atRest = false

end Sys2Proof.Machine
end

