-- ==== Sys2Proof/Certificates/Slice0/Obligations.lean ====
section
/-! DEFINITION. The statements for the provers: what the spec says that commands, and the machine as a whole, do. -/

section
open Sys2Proof Sys2Proof.Machine

/-! ### The step -/

/-- A step takes the command at the front of the queue and runs it on the state with the queue's rest; on an empty
queue the hub idles (the latter is the model's choice, log entry 12). -/
def Obligations.StepRunsTheFrontCommand : Prop :=
  (∀ (s : State) (c : Instr) (rest : List Instr),
    step { s with pending := c :: rest } = exec c { s with pending := rest }) ∧
  ∀ s : State, s.pending = [] → step s = .next s

/-- Every command answers a next state, in every state; it leaves the queue alone, and what the hub has put out stays. No
sentence of the spec says so of every command: 00_scope.md 4.2 describes the hub as events and their outcomes, and it is the
model's choice where the spec has no such command or no such record: an event that cannot happen changes nothing (log entry 3),
an ill-formed command is answered as log entry 14 says, and what the hub puts out is kept as a growing list (log entry 11). -/
def Obligations.EveryCommandAnswersNext : Prop :=
  ∀ (i : Instr) (s : State), ∃ t, exec i s = .next t ∧ t.pending = s.pending ∧ s.outputs <+: t.outputs

/-! ### The direct path and the link events -/

/-- R149, R150: in an OPERATIONAL hub with the slot not busy, a command on a port that is detached, or whose channel
is IDLE or HALTED, is accepted, for each of the six kinds: the slot is BUSY with word in 0 and the overrun flag clear,
and the transaction is sent with its payload, the sequence count and the answer timer of the port. Nothing else
changes. -/
def Obligations.DirectCommandsAreAccepted : Prop :=
  ∀ (s : State) (p : Chan) (last : Bool) (code : CloseCode),
    s.hubState = .operational → s.direct.result ≠ .busy → ((s.ch p).detached = true ∨ (s.ch p).resting) →
    (s.port p).outstanding = none →
    let sent : Kind → BitVec 3 → Payload → State := fun k n pl =>
      { s with
        direct := { s.direct with wordIn := 0, result := .busy, port := p, kind := n, overrun := false },
        ports := s.ports.set p.val ((s.port p).sending (s.ch p).answerTimeout .direct k),
        outputs := s.outputs ++ [.transaction p k (s.port p).seq pl] }
    exec (.directLead 0 p) s = .next (sent .lead 1 (.word s.direct.wordOut)) ∧
    exec (.directTurn 0 p) s = .next (sent .turn 2 .none) ∧
    exec (.directPut 0 p last) s = .next (sent .put 3 (.data s.direct.wordOut last)) ∧
    exec (.directGet 0 p last) s = .next (sent .get 4 (.mark last)) ∧
    exec (.directAsk 0 p) s = .next (sent .ask 5 .none) ∧
    exec (.directClose 0 p code) s = .next (sent .close 6 (.close code))

/-- R149, R151: a direct command that is not accepted. While the slot is busy, a command of any KIND only sets the
overrun flag. Otherwise a rejected command sets only RESULT, PORT and KIND: KIND 0 and 7 are REJECTED_KIND in every
hub state past INITIALISING; the other kinds are REJECTED_QUIESCE in QUIESCING and QUIESCED, and REJECTED_BUSY in
OPERATIONAL on an attached port whose channel is neither IDLE nor HALTED. -/
def Obligations.DirectCommandsTurnedAway : Prop :=
  ∀ (s : State) (p : Chan), s.hubState ≠ .initialising →
    let rejected : DirResult → BitVec 3 → State := fun r n =>
      { s with direct := { s.direct with result := r, port := p, kind := n } }
    let valid : Bool → CloseCode → List (Instr × BitVec 3) := fun last code =>
      [(.directLead 0 p, 1), (.directTurn 0 p, 2), (.directPut 0 p last, 3), (.directGet 0 p last, 4),
        (.directAsk 0 p, 5), (.directClose 0 p code, 6)]
    (s.direct.result = .busy → ∀ last code k, ∀ i ∈ Instr.directInvalidKind 0 p k :: (valid last code).map Prod.fst,
      exec i s = .next { s with direct := { s.direct with overrun := true } }) ∧
    (s.direct.result ≠ .busy →
      (∀ k : BitVec 3, k = 0 ∨ k = 7 → exec (.directInvalidKind 0 p k) s = .next (rejected .rejectedKind k)) ∧
      (∀ last code, ∀ x ∈ valid last code,
        ((s.hubState = .quiescing ∨ s.hubState = .quiesced) → exec x.1 s = .next (rejected .rejectedQuiesce x.2)) ∧
        (s.hubState = .operational → (s.ch p).detached = false → ¬ (s.ch p).resting →
          exec x.1 s = .next (rejected .rejectedBusy x.2))))

/-- R4, R5, R8, R152: how a direct transaction ends. A matching answer is recorded in the slot, with the DIRECT source
latched; an ACCEPT of a GET or an ASK delivers its word, and a surplus word is discarded. An answer timer that is due
ends it NO_ANSWER, with no CLEAR. What follows in the step is that of `State.settle`. A timer that is not due, or a
port in LINK_IDLE, expires nothing (log entry 3 for the latter). -/
def Obligations.DirectTransactionsEndInTheSlot : Prop :=
  ∀ (s : State) (p : Chan),
    let ended : DirResult → Word → State := fun r w =>
      { s with
        ports := s.ports.set p.val { s.port p with outstanding := none, timer := .stopped },
        direct := { s.direct with result := r, wordIn := w },
        events := { s.events with direct := true } }
    (∀ t : Transaction, (s.port p).outstanding = some t → t.issuer = .direct →
      (s.resetAsserted = false →
        (∀ w : Word, t.kind = .get ∨ t.kind = .ask →
          exec (.answer p .accept t.kind.code t.seq (some w)) s = .next (ended .doneAccept w).settle) ∧
        (∀ o : Option Word, t.kind ≠ .get → t.kind ≠ .ask →
          exec (.answer p .accept t.kind.code t.seq o) s = .next (ended .doneAccept 0).settle) ∧
        (∀ o : Option Word, exec (.answer p .refuse t.kind.code t.seq o) s = .next (ended .doneRefuse 0).settle)) ∧
      ((s.port p).timer = .due → exec (.noAnswer p) s = .next (ended .noAnswer 0).settle)) ∧
    ((s.port p).outstanding = none ∨ (s.port p).timer ≠ .due → exec (.noAnswer p) s = .next s)

/-- R4, R7: an answer that does not match, in LINK_IDLE or beside the outstanding transaction, only sets the
stray-answer flag. -/
def Obligations.StrayAnswerOnlySetsItsFlag : Prop :=
  ∀ (s : State) (p : Chan) (code : AnswerCode) (kind : BitVec 3) (seq : BitVec 8) (word : Option Word),
    s.resetAsserted = false →
    ((s.port p).outstanding = none ∨
      ∃ t, (s.port p).outstanding = some t ∧
        (kind ≠ t.kind.code ∨ seq ≠ t.seq ∨ (code = .accept ∧ (t.kind = .get ∨ t.kind = .ask) ∧ word = none))) →
    exec (.answer p code kind seq word) s =
      .next { s with ports := s.ports.set p.val { s.port p with stray := true } }

/-- R14, R15, R143, R144: the changes of HAIL on a channel that neither waits for READY nor paces. A new rise on an
attached IDLE channel of an OPERATIONAL hub with AUTO_ASK set and nothing outstanding on the port is served: the
channel enters SERVICING with a blank run context and sends one ASK. A new rise that is not served latches the
channel's event source; a rise that is not new shows the level only; a fall clears the hail-seen flag; during
INITIALISING only the level changes. A level that does not change is no event (log entry 3). -/
def Obligations.HailRisesAreServedOrLatched : Prop :=
  ∀ (s : State) (c : Chan),
    let risen : State := s.modPort c fun p => { p with hail := true, hailSeen := true }
    ((s.port c).hail = true → exec (.hailRise c) s = .next s) ∧
    ((s.port c).hail = false → exec (.hailFall c) s = .next s) ∧
    (s.hubState = .initialising →
      ((s.port c).hail = false → exec (.hailRise c) s = .next (s.modPort c fun p => { p with hail := true })) ∧
      ((s.port c).hail = true → exec (.hailFall c) s = .next (s.modPort c fun p => { p with hail := false }))) ∧
    (s.hubState ≠ .initialising →
      ((s.port c).hail = true →
        exec (.hailFall c) s = .next (s.modPort c fun p => { p with hail := false, hailSeen := false })) ∧
      ((s.port c).hail = false → (s.ch c).state ≠ .pacing → ¬ s.waitsForReady c →
        ((s.port c).hailSeen = true →
          exec (.hailRise c) s = .next (s.modPort c fun p => { p with hail := true }).settle) ∧
        ((s.port c).hailSeen = false →
          ((s.ch c).state ≠ .idle ∨ (s.ch c).detached = true ∨ s.hubState ≠ .operational ∨ s.directOnPort c = true ∨
            (s.ch c).autoAsk = false) →
          exec (.hailRise c) s = .next (risen.latchChannel c).settle))) ∧
    (s.hubState = .operational → (s.port c).hail = false → (s.port c).hailSeen = false → (s.ch c).state = .idle →
      (s.ch c).detached = false → (s.ch c).autoAsk = true → (s.port c).outstanding = none →
      exec (.hailRise c) s = .next (State.settle (State.sends
        (risen.modCh c fun ch => { ch with state := .servicing, run := Run.blank }) c .ask .none)))

/-- R13, R51 to R53, R27, R28: READY asserted while the channel waits for it, with neither STOP, quiesce nor HAIL,
sends the word: a PUT of the word read, or a GET, each with its LAST mark. A first word begins a
repetition: REPS saturates, WORDS is 0. READY deasserted leaves the channel waiting, its ready timer running on. A
channel that neither waits for READY nor paces, and one that paces undisturbed, sees only the level. -/
def Obligations.ReadySendsTheWaitingWord : Prop :=
  ∀ (s : State) (c : Chan),
    (s.waitsForReady c → s.undisturbed c → (s.port c).outstanding = none →
      let ch := s.ch c
      let begun : Channel :=
        if ch.run.inRepetition then ch
        else
          { ch with
            reps := if ch.reps = 0xFFFF then 0xFFFF else ch.reps + 1, words := 0,
            run := { ch.run with
              inRepetition := true,
              flags := { ch.run.flags with repsSaturated := ch.run.flags.repsSaturated || ch.reps == 0xFFFF } } }
      let sent : State :=
        (s.modPort c fun p => { p with ready := true }).modCh c fun _ =>
          { begun with readyTimer := .stopped, run := { begun.run with outWord := none, portUsed := true } }
      (ch.run.snapshot.dir = .output → exec (.readyChange c true) s =
        .next (sent.sends c .put (.data (ch.run.outWord.getD 0) ch.run.atLast)).settle) ∧
      (ch.run.snapshot.dir ≠ .output → exec (.readyChange c true) s =
        .next (sent.sends c .get (.mark ch.run.atLast)).settle)) ∧
    (s.waitsForReady c → s.undisturbed c → (s.ch c).readyTimer ≠ .stopped →
      exec (.readyChange c false) s = .next (s.modPort c fun p => { p with ready := false }).settle) ∧
    (∀ level, ¬ s.waitsForReady c → ((s.ch c).state ≠ .pacing ∨ s.undisturbed c) →
      exec (.readyChange c level) s = .next (s.modPort c fun p => { p with ready := level }).settle)

/-- R51 line 3, R54, R56, R15, R143: HAIL that rises while the channel waits for READY, or paces, ends the data phase:
DONE with HAIL_END at a repetition boundary, and DONE_EARLY anywhere else; the rise is seen and, if new, latched; with
ASK 0 the run then closes NORMAL. -/
def Obligations.HailEndsTheDataPhase : Prop :=
  ∀ (s : State) (c : Chan), (s.waitsForReady c ∨ (s.ch c).state = .pacing) → s.undisturbed c →
    s.hubState ≠ .initialising → (s.port c).outstanding = none → (s.ch c).run.snapshot.ask = false → (s.ch c).run.portUsed = true →
    let boundary : Bool := !(s.ch c).run.inRepetition && (s.ch c).reps != 0
    let ended : State :=
      (s.modPort c fun p => { p with hail := true, hailSeen := true }).modCh c fun ch =>
        { ch with
          state := .closing, readyTimer := .stopped, paceTimer := .stopped,
          run := { ch.run with
            outWord := none, outcome := some (if boundary then .done else .doneEarly),
            flags := { ch.run.flags with hailEnd := boundary } } }
    exec (.hailRise c) s = .next (State.settle (State.sends
      (if (s.port c).hailSeen then ended else ended.latchChannel c) c .close (.close .normal)))

/-! ### Timers and the taking of runs -/

/-- R171, R172: at a tick boundary every running timer counts, one at its last count being due: the answer timers, the ready
and pace timers, and the memory response timers of accesses OUTSTANDING or ABANDONED, an EMPTY or REQUESTED slot having none.
Nothing else changes but the tick period in progress, which takes TICK_DIVIDER anew, 0 acting as 1; while RESET is asserted no
tick counts (log entry 15). -/
def Obligations.TickCountsEveryTimer : Prop :=
  (∀ s : State, s.resetAsserted = false →
    exec .tick s = .next
      { s with
        tickPeriod := if s.tickDivider = 0 then 1 else s.tickDivider.toNat,
        ports := s.ports.map fun p => { p with timer := p.timer.tick },
        channels := s.channels.map fun ch =>
          { ch with readyTimer := ch.readyTimer.tick, paceTimer := ch.paceTimer.tick },
        slots := s.slots.map fun m => { m with slot := m.slot.tick } }) ∧
  (∀ s : State, s.resetAsserted = true → exec .tick s = .next s) ∧
  (∀ n, Timer.tick (.running (n + 2)) = .running (n + 1)) ∧ Timer.tick (.running 1) = .due ∧
  Timer.tick .unlimited = .unlimited ∧ Timer.tick .stopped = .stopped ∧ Timer.tick .due = .due ∧
  (∀ a k t, Slot.tick (.outstanding a k t) = .outstanding a k t.tick) ∧
  (∀ k t, Slot.tick (.abandoned k t) = .abandoned k t.tick) ∧ Slot.tick .empty = .empty ∧
  ∀ a, Slot.tick (.requested a) = .requested a

/-- R64, R71, R73: a ready timer that is due at a data decision point, where none of lines 1 to 4 of R51 holds, ends
the run with NOT_READY at step PUT or GET: it closes ABORT, or, with the port not used, goes straight to the
write-back. A timer that is not due, and a channel that does not wait, expire nothing (log entry 3). -/
def Obligations.ReadyTimeoutIsNotReady : Prop :=
  ∀ (s : State) (c : Chan),
    (s.waitsForReady c → (s.ch c).readyTimer = .due → s.undisturbed c → (s.port c).ready = false →
      (s.port c).outstanding = none →
      let faulted : ChState → Channel → Channel := fun st ch =>
        { ch with
          state := st, readyTimer := .stopped, paceTimer := .stopped,
          run := { ch.run with
            outWord := none, outcome := some .notReady,
            step := if ch.run.snapshot.dir = .output then .put else .get, faultAddr := 0,
            flags := { ch.run.flags with halted := true } } }
      ((s.ch c).run.portUsed = true → exec (.notReady c) s =
        .next ((s.modCh c (faulted .closing)).sends c .close (.close .abort)).settle) ∧
      ((s.ch c).run.portUsed = false → exec (.notReady c) s =
        .next ((s.modCh c (faulted .writeback)).request c (postedSpace (s.ch c).current)
          { addr := wordAddr (s.ch c).run.descAddr 5,
            body := .write (faulted .writeback (s.ch c)).writebackWords }).settle)) ∧
    ((¬ s.waitsForReady c ∨ (s.ch c).readyTimer ≠ .due) → exec (.notReady c) s = .next s)

/-- R56, R52, R53, R51: a pace timer that is due, with neither STOP, quiesce nor HAIL, makes the next repetition
ready: an output run reads its first word, an input run stands at its decision point and, with READY deasserted,
starts the ready timer. A timer that is not due expires nothing (log entry 3). -/
def Obligations.PaceExpiryReadiesTheRepetition : Prop :=
  ∀ (s : State) (c : Chan),
    ((s.ch c).state = .pacing → (s.ch c).paceTimer = .due → s.undisturbed c →
      let ready : Channel → Channel := fun ch =>
        { ch with
          state := .data, paceTimer := .stopped,
          run := { ch.run with position := 0, remaining := ch.run.snapshot.count.toNat } }
      ((s.ch c).run.snapshot.dir = .output → exec (.paceExpiry c) s =
        .next ((s.modCh c ready).request c (s.ch c).run.snapshot.dataSpace
          { addr := wordAddr (s.ch c).run.bufAddr 0, body := .read 1 }).settle) ∧
      ((s.ch c).run.snapshot.dir ≠ .output → (s.port c).ready = false → (s.ch c).readyTimer = .stopped →
        exec (.paceExpiry c) s = .next (s.modCh c fun ch =>
          { ready ch with
            readyTimer := if ch.readyTimeout = 0 then .unlimited else .running ch.readyTimeout.toNat }).settle)) ∧
    (((s.ch c).state ≠ .pacing ∨ (s.ch c).paceTimer ≠ .due) → exec (.paceExpiry c) s = .next s)

/-- R43 to R45, R75, R81, R88, R112, R122: a channel whose start conditions all hold takes the head entry with the
context of a new run. Its descriptor lying within the poster's window, the five-word read of the translated descriptor
is requested. Otherwise the run ends with GUARD at once: the violation is recorded, no write-back is made, its record
goes to the log of the channel's domain, which here has room, and the channel halts with its event source latched.
While any start condition fails nothing is taken. -/
def Obligations.TakingARunChecksItsDescriptor : Prop :=
  ∀ (s : State) (c : Chan),
    (∀ e rest, (s.ch c).queue = e :: rest → (s.ch c).state = .idle → (s.ch c).armed = true → s.hubState = .operational →
      (s.ch c).detached = false → (s.ch c).detachPending = false → s.directOnPort c = false → (s.ch c).flushCount = 0 →
      let addr := s.translate e.poster (postedSpace e.posted) (postedAddr e.posted)
      let record : Record :=
        { outcome := .guard, flags := { Flags.clear with halted := true }, channel := c, screenIndex := 0, step := .load,
          reps := 0, tag := 0, words := 0, leadsDone := 0, refusals := 0, status := 0, faultAddr := e.posted,
          descriptor := e.posted }
      (s.rangeOk e.poster (postedSpace e.posted) (postedAddr e.posted) 8 = true →
        exec (.takeRun c) s = .next (State.settle ((s.modCh c fun ch =>
            { ch with
              queue := rest, current := e.posted, reps := 0, words := 0, state := .loading,
              run := { Run.blank with poster := e.poster, descAddr := addr } }).request c (postedSpace e.posted)
          { addr := addr, body := .read 5 }))) ∧
      (s.rangeOk e.poster (postedSpace e.posted) (postedAddr e.posted) 8 = false → (s.ch c).stopPending = false →
        (s.log (s.ch c).domain).records.length < 16 →
        exec (.takeRun c) s = .next (State.settle (State.latchChannel
          (((s.recordTrap
              { kind := .descriptorRange, domain := e.poster, channel := some c, offending := e.posted,
                extent := 8 }).modLog
            (s.ch c).domain fun l => { l with records := l.records ++ [record] }).modCh c fun ch =>
              { ch with
                queue := rest, current := e.posted, reps := 0, words := 0, state := .halted, run := Run.blank,
                readyTimer := .stopped, paceTimer := .stopped, held := none, afterLogging := .halt }) c)))) ∧
    (((s.ch c).queue = [] ∨ (s.ch c).state ≠ .idle ∨ (s.ch c).armed = false ∨ s.hubState ≠ .operational ∨
        (s.ch c).detached = true ∨ (s.ch c).detachPending = true ∨ s.directOnPort c = true ∨ (s.ch c).flushCount ≠ 0) →
      exec (.takeRun c) s = .next s)

/-! ### The memory port -/

/-- R125 to R128, R84: how an access of the memory port begins, and how one that nobody waits for ends. Taking the
presented request makes its slot OUTSTANDING with the channel's access number, starts the memory response timer,
advances the number and moves the service pointer; the request goes out; with none presented nothing is taken (log
entry 3). A response that carries no issued access's number is discarded, as is an expiry of a timer that is not due
(log entry 3); the response to an ABANDONED access, or the expiry of its timer, only makes the slot EMPTY, and a
request that waited for the slot becomes REQUESTED at once. -/
def Obligations.AccessesAreIssuedAndDiscarded : Prop :=
  (∀ s : State,
     (∀ c a, s.presented = some c → (s.mem c).slot = .requested a →
       exec .memoryIssue s = .next (State.settle
         { s with
           slots := s.slots.set c.val
             { s.mem c with
               slot := .outstanding a (s.mem c).number
                 (if s.memTimeout = 0 then .unlimited else .running s.memTimeout.toNat),
               number := (s.mem c).number + 1 },
           servicePointer := c, presented := none,
           outputs := s.outputs ++ [.memoryRequest c (s.mem c).number a] })) ∧
     (s.presented = none → exec .memoryIssue s = .next s)) ∧
  ∀ (s : State) (c : Chan) (n : BitVec 8) (r : MemResponse),
    let freed : State := s.modMem c fun m =>
      { m with
        slot := match m.need with
          | none => .empty
          | some a => .requested a,
        need := none }
    (((s.mem c).slot = .empty ∨ (∃ a, (s.mem c).slot = .requested a)) →
      exec (.memoryResponse c n r) s = .next s ∧ exec (.memoryTimeout c) s = .next s) ∧
    (∀ a k t, (s.mem c).slot = .outstanding a k t →
      (k ≠ n → exec (.memoryResponse c n r) s = .next s) ∧ (t ≠ .due → exec (.memoryTimeout c) s = .next s)) ∧
    (∀ k t, (s.mem c).slot = .abandoned k t →
      (k ≠ n → exec (.memoryResponse c n r) s = .next s) ∧ (t ≠ .due → exec (.memoryTimeout c) s = .next s) ∧
      (k = n → exec (.memoryResponse c n r) s = .next freed.settle) ∧
      (t = .due → exec (.memoryTimeout c) s = .next freed.settle))

/-- R71 to R73, R75, R79, R80, R92, R127, R133: an access of a run that fails ends it: MEMORY_ERROR for a response with ERROR,
MEMORY_TIMEOUT for the expiry of the response timer, STORE_PARITY for a read of a store word that disagrees. A one-word read in
LEAD or DATA, or the one-word write of an input word, that fails is a fault at LEAD, PUT or GET. STEP and FAULT_ADDR name the word
as the poster addresses it, a STOP that was pending is cleared and shown in STOP_ALSO, and the channel closes ABORT, or, with the
port not yet used, sends no CLOSE and goes straight to the write-back. A failed read of the descriptor ends the run, which is as it
was taken, with no write-back: its record, with the descriptor's address as FAULT_ADDR and no snapshot's TAG, goes to a log with
room, and the channel halts with its event source latched. -/
def Obligations.FailedAccessFaultsTheRun : Prop :=
  ∀ (s : State) (c : Chan) (a : Access), (s.mem c).need = none →
    let freed : State := s.modMem c fun m => { m with slot := .empty }
    let word : Nat → StoreWord := fun i => s.store.get (storeIndex (a.addr + BitVec.ofNat 32 (4 * i)))
    let fails : Nat → (RunOutcome → State → State) → Prop := fun words ended =>
      (∀ n t r, (s.mem c).slot = .outstanding a n t → (∃ i < words, r.error.getLsbD i = true) →
        exec (.memoryResponse c n r) s = .next (ended .memoryError freed).settle) ∧
      (∀ n, (s.mem c).slot = .outstanding a n .due →
        exec (.memoryTimeout c) s = .next (ended .memoryTimeout freed).settle) ∧
      (a.body = .read words → s.granted = some (.channel c a true) →
        (∃ i < words, (word i).check ≠ oddBits (word i).data) →
        exec .storeAccessDone s = .next (ended .storeParity { s with granted := none }).settle)
    ((s.ch c).state = .lead ∨ (s.ch c).state = .data → (a.body = .read 1 ∨ ∃ v, a.body = .write [v]) →
      (s.port c).outstanding = none →
      let faulted : RunOutcome → ChState → Channel → Channel := fun o st ch =>
        { ch with
          state := st, stopPending := false, readyTimer := .stopped, paceTimer := .stopped,
          run := { ch.run with
            outWord := none, outcome := some o,
            step := if (s.ch c).state = .lead then .lead else if ch.run.snapshot.dir = .output then .put else .get,
            faultAddr := if (s.ch c).state = .lead
              then withSpace (ch.run.snapshot.w2 + BitVec.ofNat 32 (4 * ch.run.leadsDone.toNat)) ch.run.snapshot.leadSpace
              else withSpace (ch.run.snapshot.w3 + BitVec.ofNat 32 (4 * ch.run.position)) ch.run.snapshot.dataSpace,
            flags := { ch.run.flags with
              halted := true, stopAlso := ch.run.flags.stopAlso || ch.stopPending } } }
      ((s.ch c).run.portUsed = true → fails 1 fun o u =>
        (u.modCh c (faulted o .closing)).sends c .close (.close .abort)) ∧
      ((s.ch c).run.portUsed = false → fails 1 fun o u =>
        (u.modCh c (faulted o .writeback)).request c (postedSpace (s.ch c).current)
          { addr := wordAddr (s.ch c).run.descAddr 5,
            body := .write (faulted o .writeback (s.ch c)).writebackWords })) ∧
    ∀ (poster : Dom) (addr : Word), (s.ch c).state = .loading → a.body = .read 5 →
      (s.ch c).run = { Run.blank with poster := poster, descAddr := addr } → (s.ch c).reps = 0 → (s.ch c).words = 0 →
      (s.ch c).flushCount = 0 → (s.log (s.ch c).domain).records.length < 16 →
      fails 5 fun o u =>
        let record : Record :=
          { outcome := o, flags := { Flags.clear with halted := true, stopAlso := (s.ch c).stopPending }, channel := c,
            screenIndex := 0, step := .load, reps := 0, tag := 0, words := 0, leadsDone := 0, refusals := 0, status := 0,
            faultAddr := (s.ch c).current, descriptor := (s.ch c).current }
        State.latchChannel
          ((u.modLog (s.ch c).domain fun l => { l with records := l.records ++ [record] }).modCh c fun ch =>
            { ch with
              state := .halted, stopPending := false, readyTimer := .stopped, paceTimer := .stopped, run := Run.blank,
              held := none, afterLogging := .halt }) c

/-! ### The staging store -/

/-- R129, R134: the host's granted access completes. A write stores the word with an agreeing check bit; a read of a word
that agrees returns it; a read of one that disagrees returns 0 with a bus error and repairs nothing. Either way the
store is free. In a free store no access completes, and the command changes nothing: that is the model's choice (log entry 3),
not a clause of R134. -/
def Obligations.HostStoreAccessCompletes : Prop :=
  ∀ (s : State) (d : Dom) (w : StoreIndex),
    let x := s.store.get w.toNat
    (∀ v, s.granted = some (.host { domain := d, word := w, access := .write v }) →
      exec .storeAccessDone s = .next (State.settle
        { s with
          granted := none, store := s.store.put w.toNat { data := v, check := oddBits v },
          outputs := s.outputs ++ [.hostResponse d 0 false] })) ∧
    (s.granted = some (.host { domain := d, word := w, access := .read }) →
      (x.check = oddBits x.data → exec .storeAccessDone s = .next (State.settle
        { s with granted := none, outputs := s.outputs ++ [.hostResponse d x.data false] })) ∧
      (x.check ≠ oddBits x.data → exec .storeAccessDone s = .next (State.settle
        { s with granted := none, outputs := s.outputs ++ [.hostResponse d 0 true] }))) ∧
    (s.granted = none → exec .storeAccessDone s = .next s)

/-- R45, R48, R52, R53, R60, R62, R84, R129, R133: a channel's granted access completes. One that a reset has abandoned
leaves its words, one or three at consecutive addresses, in the store and reaches no channel. One that is wanted, every word
read agreeing with its check bit, is handed to the channel: in LEAD the word is sent as a LEAD; in DATA a word read for a PUT
waits for READY or is sent, and a word written for a GET is counted; in LOADING the five words are the descriptor, here a good
one with lead words, the first of which is asked for; in WRITEBACK the three words are in the store and the record is offered,
here to a log with room. Throughout with neither STOP, quiesce nor HAIL. -/
def Obligations.ChannelStoreAccessCompletes : Prop :=
  ∀ (s : State) (c : Chan) (a : Access),
    let freed : State := { s with granted := none }
    let word : Nat → StoreWord := fun i => s.store.get (storeIndex (a.addr + BitVec.ofNat 32 (4 * i)))
    let agrees : Nat → Prop := fun i => (word i).check = oddBits (word i).data
    let put : Nat → Word → Store → Store := fun i v m =>
      m.put (storeIndex (a.addr + BitVec.ofNat 32 (4 * i))) { data := v, check := oddBits v }
    let waiting : Channel → Channel := fun ch =>
      { ch with readyTimer := if ch.readyTimeout = 0 then .unlimited else .running ch.readyTimeout.toNat }
    (s.granted = some (.channel c a false) →
      (∀ n, a.body = .read n → exec .storeAccessDone s = .next freed.settle) ∧
      (∀ v, a.body = .write [v] → exec .storeAccessDone s = .next (State.settle { freed with store := put 0 v s.store })) ∧
      (∀ v0 v1 v2, a.body = .write [v0, v1, v2] → exec .storeAccessDone s = .next (State.settle
        { freed with store := put 2 v2 (put 1 v1 (put 0 v0 s.store)) }))) ∧
    (s.granted = some (.channel c a true) → a.body = .read 1 → (s.ch c).state = .lead → (s.ch c).stopPending = false →
      s.hubState ≠ .quiescing → (s.port c).outstanding = none → agrees 0 →
      exec .storeAccessDone s = .next (State.settle (State.sends
        (freed.modCh c fun ch => { ch with run := { ch.run with portUsed := true } }) c .lead (.word (word 0).data)))) ∧
    (s.granted = some (.channel c a true) → a.body = .read 1 → (s.ch c).state = .data →
      (s.ch c).run.snapshot.dir = .output → s.undisturbed c → (s.port c).outstanding = none → agrees 0 →
      ((s.port c).ready = false → (s.ch c).readyTimer = .stopped → exec .storeAccessDone s = .next (State.settle
        (freed.modCh c fun ch => waiting { ch with run := { ch.run with outWord := some (word 0).data } }))) ∧
      ((s.port c).ready = true → (s.ch c).run.inRepetition = true → exec .storeAccessDone s = .next (State.settle
        (State.sends
          (freed.modCh c fun ch =>
            { ch with readyTimer := .stopped, run := { ch.run with outWord := none, portUsed := true } })
          c .put (.data (word 0).data ((s.ch c).run.position + 1 == (s.ch c).run.snapshot.count.toNat)))))) ∧
    (∀ v, s.granted = some (.channel c a true) → a.body = .write [v] → (s.ch c).state = .data →
      (s.ch c).run.snapshot.dir = .input → s.undisturbed c → (s.port c).ready = false → (s.ch c).readyTimer = .stopped →
      1 < (s.ch c).run.remaining →
      exec .storeAccessDone s = .next (State.settle
        (State.modCh { freed with store := put 0 v s.store } c fun ch => waiting
          { ch with
            words := ch.words + 1,
            run := { ch.run with position := ch.run.position + 1, remaining := ch.run.remaining - 1 } }))) ∧
    (s.granted = some (.channel c a true) → a.body = .read 5 → (s.ch c).state = .loading → (s.ch c).stopPending = false →
      s.hubState ≠ .quiescing → (∀ i < 5, agrees i) →
      let d : Snapshot :=
        { w0 := (word 0).data, w1 := (word 1).data, w2 := (word 2).data, w3 := (word 3).data, w4 := (word 4).data }
      let poster := (s.ch c).run.poster
      d.formatOk = true → d.leads ≠ 0 → (s.ch c).run.leadsDone = 0 →
      s.rangeOk poster d.leadSpace d.w2 d.leads.toNat = true →
      (d.hasData = true → s.rangeOk poster d.dataSpace d.w3 d.count.toNat = true) →
      exec .storeAccessDone s = .next (State.settle ((freed.modCh c fun ch =>
          { ch with
            state := .lead,
            run := { ch.run with
              snapshot := d, leadAddr := s.translate poster d.leadSpace d.w2,
              bufAddr := s.translate poster d.dataSpace d.w3 } }).request c d.leadSpace
        { addr := wordAddr (s.translate poster d.leadSpace d.w2) 0, body := .read 1 }))) ∧
    (∀ v0 v1 v2, s.granted = some (.channel c a true) → a.body = .write [v0, v1, v2] → (s.ch c).state = .writeback →
      (s.ch c).flushCount = 0 → (s.log (s.ch c).domain).records.length < 16 →
      let halted := (s.ch c).run.flags.halted
      let logged : State := State.modCh
        (State.modLog { freed with store := put 2 v2 (put 1 v1 (put 0 v0 s.store)) } (s.ch c).domain
          fun l => { l with records := l.records ++ [(s.ch c).runRecord c] })
        c fun ch =>
          { ch with
            state := if halted then .halted else .idle, run := Run.blank, held := none,
            afterLogging := if halted then .halt else .idle }
      exec .storeAccessDone s = .next (if halted then logged.latchChannel c else logged).settle)

/-- R103, R114, R134: what becomes of an aperture access as it arrives. One that is not a 32-bit access at a multiple
of 4, or that meets INITIALISING, completes with 0 and no effect; one outside the domain's window is recorded and
completes with 0; any other waits at the arbiter for its translated word. -/
def Obligations.ApertureAccessesAreDecidedOnArrival : Prop :=
  ∀ (s : State) (d : Dom) (size : Size) (off : ApertureOffset) (v : Word),
    ∀ x ∈ [(Instr.apertureRead d size off, HostAccess.read), (.apertureWrite d size off v, .write v)],
      ((size ≠ .word ∨ off.toNat % 4 ≠ 0 ∨ s.hubState = .initialising) →
        exec x.1 s = .next { s with outputs := s.outputs ++ [.hostResponse d 0 false] }) ∧
      (size = .word → off.toNat % 4 = 0 → s.hubState ≠ .initialising →
        (s.rangeOk d .staging (off.setWidth 32) 1 = false →
          exec x.1 s = .next (State.emit
            (s.recordTrap
              { kind := .apertureRange, domain := d, channel := none, offending := off.setWidth 32 ||| 1, extent := 1 })
            (.hostResponse d 0 false))) ∧
        (s.rangeOk d .staging (off.setWidth 32) 1 = true →
          exec x.1 s = .next (State.settle
            { s with
              hostWaiting := s.hostWaiting ++
                [{ domain := d,
                   word := BitVec.ofNat 13 ((s.translate d .staging (off.setWidth 32)).toNat / 4 % 8192),
                   access := x.2 }] })))

/-- R129: a failure of the storage breaks one word: its check bit disagrees until it is written again, every other
word reads as before, and nothing else changes. -/
def Obligations.StorageFailureBreaksOneWord : Prop :=
  ∀ (s : State) (w : StoreIndex) (v : Word), s.storeCanonical →
    ∃ m : Store, exec (.storageFailure w v) s = .next { s with store := m } ∧ m.wf = true ∧
      (m.get w.toNat).data = v ∧ (m.get w.toNat).agrees = false ∧
      ∀ x : Nat, x ≠ w.toNat → m.get x = s.store.get x

/-- R132: while no access is in progress and a request waits, the arbiter grants exactly one, by the first row of its
table that applies: the host if it waits alone; the host, at most twice running, while a channel waits; otherwise the
first waiting channel after the last one granted. -/
def Obligations.ArbiterGrantsByItsTable : Prop :=
  ∀ s : State,
    (∀ g, s.granted = some g → s.grant = s) ∧
    (s.granted = none →
      (s.hostWaiting = [] → (∀ c, s.storeReq c = none) → s.grant = s) ∧
      (∀ r rest, s.hostWaiting = r :: rest →
        ((∀ c, s.storeReq c = none) →
          s.grant = { s with granted := some (.host r), hostWaiting := rest, hostRun := 0 }) ∧
        ((∃ c, s.storeReq c ≠ none) → s.hostRun < 2 →
          s.grant = { s with granted := some (.host r), hostWaiting := rest, hostRun := s.hostRun + 1 })) ∧
      (∀ c a, s.storeReq c = some a → (∀ x, s.storeReq x ≠ none → c - s.lastGranted - 1 ≤ x - s.lastGranted - 1) →
        (s.hostWaiting = [] ∨ s.hostRun = 2) →
        s.grant =
          { s with
            storeRequests := s.storeRequests.set c.val none, granted := some (.channel c a true), lastGranted := c,
            hostRun := 0 }))

/-! ### What follows within a step -/

/-- R120, R125, R128, R132, R155, R180: all that `State.settle` does. On every channel a pending change that can take
effect does; the arbiter makes one grant if it can; a presented request stays presented while its slot is REQUESTED,
and otherwise the first REQUESTED channel after the service pointer is presented; and a QUIESCING hub at rest is
QUIESCED. -/
def Obligations.SettleDoesWhatIsDue : Prop :=
  ∀ s : State,
    let t := s.settle
    (∀ c, t.ch c =
      { s.ch c with
        domain := if (s.ch c).empty then (s.ch c).pendingDomain.getD (s.ch c).domain else (s.ch c).domain,
        pendingDomain := if (s.ch c).empty then none else (s.ch c).pendingDomain,
        detached := (s.ch c).detached || ((s.ch c).detachPending && ((s.ch c).state == .idle || (s.ch c).state == .halted)),
        detachPending := (s.ch c).detachPending && (s.ch c).state != .idle && (s.ch c).state != .halted }) ∧
    (∀ c, s.presented = some c → (s.mem c).isRequested = true → t.presented = some c) ∧
    (∀ c, (s.presented = none ∨ ∃ x, s.presented = some x ∧ (s.mem x).isRequested = false) →
      (t.presented = some c ↔ (s.mem c).isRequested = true ∧
        ∀ x, (s.mem x).isRequested = true → c - s.servicePointer - 1 ≤ x - s.servicePointer - 1)) ∧
    (t.hubState = if s.hubState = .quiescing ∧ (∀ c, s.settled c = true) ∧ s.direct.result ≠ .busy then .quiesced
      else s.hubState) ∧
    (let g := s.grant
     t = { s with
       channels := t.channels, presented := t.presented, hubState := t.hubState, granted := g.granted,
       hostWaiting := g.hostWaiting, hostRun := g.hostRun, storeRequests := g.storeRequests,
       lastGranted := g.lastGranted })

/-! ### Windows -/

/-- R110, with R107 and R108: when a range check passes, by domain and space, the sum computed exactly and the
effective sizes those of the windows at that moment. -/
def Obligations.RangeChecksFollowTheWindows : Prop :=
  ∀ (s : State) (a : Word) (n : Nat),
    (∀ t : Fin 3, ∀ d : Dom, d.val = t.val + 1 →
      let w := s.windows[t]
      (s.rangeOk d .host a n = true ↔
        a.toNat + 4 * n ≤ min w.hostSize.toNat (1048576 - w.hostBase.toNat) * 4096) ∧
      (s.rangeOk d .staging a n = true ↔
        a.toNat + 4 * n ≤ min w.stageSize.toNat (128 - w.stageBase.toNat) * 256) ∧
      (s.translate d .host a).toNat = (w.hostBase.toNat * 4096 + a.toNat) % 4294967296 ∧
      (s.translate d .staging a).toNat = (w.stageBase.toNat * 256 + a.toNat) % 4294967296) ∧
    s.rangeOk 0 .host a n = true ∧ (s.rangeOk 0 .staging a n = true ↔ a.toNat + 4 * n ≤ 32768) ∧
    ∀ sp, s.translate 0 sp a = a

/-! ### The course of a run -/

/-- R24: the format check, from the bits of words 0, 1, 2 and 3 of the descriptor. -/
def Obligations.FormatCheckFollowsItsTable : Prop :=
  ∀ d : Snapshot,
    let leads := (d.w0.extractLsb' 0 3).toNat
    let dir := (d.w0.extractLsb' 4 2).toNat
    let count := (d.w1.extractLsb' 0 16).toNat
    d.formatOk = false ↔
      (leads = 5 ∨ leads = 6 ∨ leads = 7) ∨ dir = 3 ∨ ((dir = 1 ∨ dir = 2) ∧ count = 0) ∨ (dir = 0 ∧ count ≠ 0) ∨
      (dir = 0 ∧ d.w0.getLsbD 7 = true) ∨ (dir = 0 ∧ d.w0.getLsbD 3 = true) ∨ d.w0.extractLsb' 11 21 ≠ 0 ∨
      (1 ≤ leads ∧ leads ≤ 4 ∧ d.w2.extractLsb' 0 2 ≠ 0) ∨ ((dir = 1 ∨ dir = 2) ∧ d.w3.extractLsb' 0 2 ≠ 0)

/-- R45, R48, R50, R51, R57 to R59, R75, R80, R112: what a channel in LOADING does with its descriptor. A good one, with neither
STOP nor quiesce, starts the first phase that it calls for. With lead words, the first is read from its translated address. With
LEADS 0, TURN is sent if it is set; otherwise an output run reads the buffer's first word and an input run stands at its decision
point, here waiting for READY; with DIR NONE the run is DONE so far: it sends its ASK if it has one, and otherwise, the port not
used, goes straight to the write-back. A bad format, or a lead list or a buffer outside the poster's window (recorded by the
Guard), is a fault at LOAD that goes straight to the write-back, a STOP that was pending being cleared and shown in STOP_ALSO. -/
def Obligations.DescriptorIsCheckedThenLed : Prop :=
  ∀ (s : State) (c : Chan) (addr : Word) (n : BitVec 8) (t : Timer) (r : MemResponse),
    (s.ch c).state = .loading → (s.mem c).slot = .outstanding { addr := addr, body := .read 5 } n t →
    (s.mem c).need = none → r.error = 0 →
    let d : Snapshot := { w0 := r.w0, w1 := r.w1, w2 := r.w2, w3 := r.w3, w4 := r.w4 }
    let poster := (s.ch c).run.poster
    let freed : State := s.modMem c fun m => { m with slot := .empty }
    let faulted : RunOutcome → Word → Channel → Channel := fun o a ch =>
      { ch with
        state := .writeback, stopPending := false, readyTimer := .stopped, paceTimer := .stopped,
        run := { ch.run with
          snapshot := d, outWord := none, outcome := some o, step := .load, faultAddr := a,
          flags := { ch.run.flags with halted := true, stopAlso := ch.run.flags.stopAlso || ch.stopPending } } }
    let written : RunOutcome → Word → State → State := fun o a u =>
      (u.modCh c (faulted o a)).request c (postedSpace (s.ch c).current)
        { addr := wordAddr (s.ch c).run.descAddr 5, body := .write (faulted o a (s.ch c)).writebackWords }
    let loaded : Run → Run := fun x =>
      { x with
        snapshot := d, leadAddr := s.translate poster d.leadSpace d.w2, bufAddr := s.translate poster d.dataSpace d.w3 }
    (d.formatOk = true → (s.ch c).stopPending = false → s.hubState ≠ .quiescing →
      (d.leads ≠ 0 → s.rangeOk poster d.leadSpace d.w2 d.leads.toNat = true) →
      (d.hasData = true → s.rangeOk poster d.dataSpace d.w3 d.count.toNat = true) →
      (d.leads ≠ 0 → (s.ch c).run.leadsDone = 0 →
        exec (.memoryResponse c n r) s = .next (State.settle
          ((freed.modCh c fun ch => { ch with state := .lead, run := loaded ch.run }).request c d.leadSpace
            { addr := wordAddr (s.translate poster d.leadSpace d.w2) 0, body := .read 1 }))) ∧
      (d.leads = 0 → d.turn = true → (s.port c).outstanding = none →
        exec (.memoryResponse c n r) s = .next (State.settle (State.sends
          (freed.modCh c fun ch => { ch with state := .turn, run := { loaded ch.run with portUsed := true } })
          c .turn .none))) ∧
      (d.leads = 0 → d.turn = false → d.dir = .output →
        exec (.memoryResponse c n r) s = .next (State.settle
          ((freed.modCh c fun ch =>
            { ch with
              state := .data, run := { loaded ch.run with position := 0, remaining := d.count.toNat } }).request c d.dataSpace
            { addr := wordAddr (s.translate poster d.dataSpace d.w3) 0, body := .read 1 }))) ∧
      (d.leads = 0 → d.turn = false → d.dir = .input → (s.port c).hail = false → (s.port c).ready = false →
        (s.ch c).readyTimer = .stopped →
        exec (.memoryResponse c n r) s = .next (State.settle (freed.modCh c fun ch =>
          { ch with
            state := .data, readyTimer := if ch.readyTimeout = 0 then .unlimited else .running ch.readyTimeout.toNat,
            run := { loaded ch.run with position := 0, remaining := d.count.toNat } }))) ∧
      (d.leads = 0 → d.dir = .none → d.ask = true → (s.port c).outstanding = none →
        exec (.memoryResponse c n r) s = .next (State.settle (State.sends
          (freed.modCh c fun ch =>
            { ch with state := .status, run := { loaded ch.run with outcome := some .done, portUsed := true } })
          c .ask .none))) ∧
      (d.leads = 0 → d.dir = .none → d.ask = false → (s.ch c).run.portUsed = false →
        let done : Channel → Channel := fun ch =>
          { ch with state := .writeback, run := { loaded ch.run with outcome := some .done } }
        exec (.memoryResponse c n r) s = .next (State.settle
          ((freed.modCh c done).request c (postedSpace (s.ch c).current)
            { addr := wordAddr (s.ch c).run.descAddr 5, body := .write (done (s.ch c)).writebackWords })))) ∧
    (d.formatOk = false → exec (.memoryResponse c n r) s = .next (written .badDescriptor 0 freed).settle) ∧
    (d.formatOk = true → d.leads ≠ 0 → s.rangeOk poster d.leadSpace d.w2 d.leads.toNat = false →
      exec (.memoryResponse c n r) s = .next (written .guard (withSpace d.w2 d.leadSpace) (freed.recordTrap
        { kind := .leadRange, domain := poster, channel := some c, offending := withSpace d.w2 d.leadSpace,
          extent := d.leads.setWidth 16 })).settle) ∧
    (d.formatOk = true → (d.leads ≠ 0 → s.rangeOk poster d.leadSpace d.w2 d.leads.toNat = true) → d.hasData = true →
      s.rangeOk poster d.dataSpace d.w3 d.count.toNat = false →
      exec (.memoryResponse c n r) s = .next (written .guard (withSpace d.w3 d.dataSpace) (freed.recordTrap
        { kind := .bufferRange, domain := poster, channel := some c, offending := withSpace d.w3 d.dataSpace,
          extent := d.count })).settle)

/-- R46, R48, R50, R52, R53: the lead words and the TURN of a run that nothing ends. The word read is sent; its
acceptance, or its refusal with TOLERATE 1, counts it and reads the next from the word after; after the last the channel sends
TURN if the run has one. A TURN that is accepted, or refused with TOLERATE 1, makes the first repetition ready; an output run reads the
buffer's first word. The tolerated refusal is counted, saturating at 255. -/
def Obligations.LeadWordsThenTurnGoInOrder : Prop :=
  (∀ (s : State) (c : Chan), (s.ch c).state = .lead → (s.ch c).stopPending = false → s.hubState ≠ .quiescing →
     (∀ (addr : Word) (n : BitVec 8) (t : Timer) (r : MemResponse), (s.port c).outstanding = none →
       (s.mem c).need = none → (s.mem c).slot = .outstanding { addr := addr, body := .read 1 } n t →
       r.error.getLsbD 0 = false →
       exec (.memoryResponse c n r) s = .next (State.settle (State.sends
         ((s.modMem c fun m => { m with slot := .empty }).modCh c
           fun ch => { ch with run := { ch.run with portUsed := true } }) c .lead (.word r.w0)))) ∧
     (∀ (q : BitVec 8) (o : Option Word), s.resetAsserted = false →
       (s.port c).outstanding = some { kind := .lead, seq := q, issuer := .channel } →
       let next := (s.ch c).run.leadsDone + 1
       (next ≠ (s.ch c).run.snapshot.leads →
         exec (.answer c .accept 1 q o) s = .next (State.settle
           (((s.endTransaction c).modCh c fun ch => { ch with run := { ch.run with leadsDone := next } }).request c
             (s.ch c).run.snapshot.leadSpace
             { addr := wordAddr (s.ch c).run.leadAddr next.toNat, body := .read 1 }))) ∧
       (next ≠ (s.ch c).run.snapshot.leads → (s.ch c).run.snapshot.tolerate = true →
         exec (.answer c .refuse 1 q o) s = .next (State.settle
           (((s.endTransaction c).modCh c fun ch =>
             { ch with run := { ch.run with
               leadsDone := next,
               refusals := if ch.run.refusals = 255 then 255 else ch.run.refusals + 1 } }).request c
             (s.ch c).run.snapshot.leadSpace
             { addr := wordAddr (s.ch c).run.leadAddr next.toNat, body := .read 1 }))) ∧
       (next = (s.ch c).run.snapshot.leads → (s.ch c).run.snapshot.turn = true →
         exec (.answer c .accept 1 q o) s = .next (State.settle (State.sends
           ((s.endTransaction c).modCh c fun ch =>
             { ch with state := .turn, run := { ch.run with leadsDone := next, portUsed := true } })
           c .turn .none))))) ∧
  ∀ (s : State) (c : Chan) (q : BitVec 8) (o : Option Word), s.resetAsserted = false → (s.ch c).state = .turn →
    (s.ch c).stopPending = false → s.hubState ≠ .quiescing → (s.ch c).run.snapshot.dir = .output →
    (s.port c).outstanding = some { kind := .turn, seq := q, issuer := .channel } →
    let readied : BitVec 8 → State := fun refusals =>
      ((s.endTransaction c).modCh c fun ch =>
        { ch with
          state := .data,
          run := { ch.run with
            refusals := refusals, position := 0, remaining := ch.run.snapshot.count.toNat } }).request c
        (s.ch c).run.snapshot.dataSpace { addr := wordAddr (s.ch c).run.bufAddr 0, body := .read 1 }
    exec (.answer c .accept 2 q o) s = .next (readied (s.ch c).run.refusals).settle ∧
    ((s.ch c).run.snapshot.tolerate = true →
      exec (.answer c .refuse 2 q o) s = .next (readied
        (if (s.ch c).run.refusals = 255 then 255 else (s.ch c).run.refusals + 1)).settle)

/-- R46, R71, R73, R80: with TOLERATE 0 a REFUSE of a LEAD, TURN, PUT, GET or ASK is the fault REFUSED at that step: the
run closes ABORT. A STOP that was pending is cleared and shown in STOP_ALSO. -/
def Obligations.RefusalIsAFault : Prop :=
  ∀ (s : State) (c : Chan) (q : BitVec 8) (o : Option Word), s.resetAsserted = false →
    (s.ch c).run.snapshot.tolerate = false → (s.ch c).run.portUsed = true →
    ∀ x ∈ [(ChState.lead, Kind.lead, RunStep.lead), (.turn, .turn, .turn), (.data, .put, .put), (.data, .get, .get),
        (.status, .ask, .ask)],
      (s.ch c).state = x.1 → (x.1 = .data → ((s.ch c).run.snapshot.dir = .output ↔ x.2.1 = .put)) →
      (s.port c).outstanding = some { kind := x.2.1, seq := q, issuer := .channel } →
      exec (.answer c .refuse x.2.1.code q o) s = .next (State.settle (State.sends
        ((s.endTransaction c).modCh c fun ch =>
          { ch with
            state := .closing, stopPending := false, readyTimer := .stopped, paceTimer := .stopped,
            run := { ch.run with
              outWord := none, outcome := some .refused, step := x.2.2, faultAddr := 0,
              flags := { ch.run.flags with
                halted := true, stopAlso := ch.run.flags.stopAlso || ch.stopPending } } })
        c .close (.close .abort)))

/-- R8, R71, R74, R80: an answer timer that expires on a LEAD, TURN, PUT, GET or ASK of a run is the fault NO_ANSWER at
that step: CLEAR is pulsed, no CLOSE is sent, and the write-back is asked for. A STOP that was pending is cleared and shown
in STOP_ALSO. -/
def Obligations.NoAnswerClearsThePort : Prop :=
  ∀ (s : State) (c : Chan) (q : BitVec 8), (s.port c).timer = .due →
    ∀ x ∈ [(ChState.lead, Kind.lead, RunStep.lead), (.turn, .turn, .turn), (.data, .put, .put), (.data, .get, .get),
        (.status, .ask, .ask)],
      (s.ch c).state = x.1 → (x.1 = .data → ((s.ch c).run.snapshot.dir = .output ↔ x.2.1 = .put)) →
      (s.port c).outstanding = some { kind := x.2.1, seq := q, issuer := .channel } →
      let faulted : Channel → Channel := fun ch =>
        { ch with
          state := .writeback, stopPending := false, readyTimer := .stopped, paceTimer := .stopped,
          run := { ch.run with
            outWord := none, outcome := some .noAnswer, step := x.2.2, faultAddr := 0,
            flags := { ch.run.flags with
              halted := true, stopAlso := ch.run.flags.stopAlso || ch.stopPending } } }
      exec (.noAnswer c) s = .next (State.settle
        ((((s.endTransaction c).emit (.clear c)).modCh c faulted).request c (postedSpace (s.ch c).current)
          { addr := wordAddr (s.ch c).run.descAddr 5, body := .write (faulted (s.ch c)).writebackWords }))

/-- R46, R52, R53, R55 to R59: an accepted PUT of a run that nothing ends. The word is counted and the next is read; a
refusal with TOLERATE 1 is counted instead of the word. After the last word of a repetition: with LOOP 0 the run is DONE and,
with ASK 0, closes NORMAL, or, with ASK 1, enters STATUS and sends its ASK; with LOOP 1 it ends so at LOOP_LIMIT, and
otherwise, with PACE set, paces. -/
def Obligations.AcceptedPutMovesOn : Prop :=
  ∀ (s : State) (c : Chan) (q : BitVec 8) (o : Option Word), s.resetAsserted = false → (s.ch c).state = .data →
    s.undisturbed c → (s.ch c).run.snapshot.dir = .output →
    (s.port c).outstanding = some { kind := .put, seq := q, issuer := .channel } →
    let d := (s.ch c).run.snapshot
    let counted : Bool → Channel → Channel := fun more ch =>
      { ch with
        words := ch.words + 1,
        run := { ch.run with
          position := ch.run.position + 1, remaining := ch.run.remaining - 1,
          inRepetition := ch.run.inRepetition && more } }
    let closed : State := State.sends
      ((s.endTransaction c).modCh c fun ch =>
        { counted false ch with
          state := .closing, run := { (counted false ch).run with outcome := some .done, portUsed := true } })
      c .close (.close .normal)
    (1 < (s.ch c).run.remaining → exec (.answer c .accept 3 q o) s = .next (State.settle
      (((s.endTransaction c).modCh c (counted true)).request c d.dataSpace
        { addr := wordAddr (s.ch c).run.bufAddr ((s.ch c).run.position + 1), body := .read 1 }))) ∧
    (1 < (s.ch c).run.remaining → d.tolerate = true → exec (.answer c .refuse 3 q o) s = .next (State.settle
      (((s.endTransaction c).modCh c fun ch =>
        { ch with run := { ch.run with
          position := ch.run.position + 1, remaining := ch.run.remaining - 1,
          refusals := if ch.run.refusals = 255 then 255 else ch.run.refusals + 1 } }).request c d.dataSpace
        { addr := wordAddr (s.ch c).run.bufAddr ((s.ch c).run.position + 1), body := .read 1 }))) ∧
    ((s.ch c).run.remaining = 1 → d.ask = true →
      (d.loop = false ∨ (d.loopLimit ≠ 0 ∧ (s.ch c).reps = d.loopLimit)) →
      exec (.answer c .accept 3 q o) s = .next (State.settle (State.sends
        ((s.endTransaction c).modCh c fun ch =>
          { counted false ch with
            state := .status, run := { (counted false ch).run with outcome := some .done, portUsed := true } })
        c .ask .none))) ∧
    ((s.ch c).run.remaining = 1 → d.ask = false → (s.ch c).run.portUsed = true →
      (d.loop = false ∨ (d.loopLimit ≠ 0 ∧ (s.ch c).reps = d.loopLimit)) →
      exec (.answer c .accept 3 q o) s = .next closed.settle) ∧
    ((s.ch c).run.remaining = 1 → d.loop = true → (d.loopLimit = 0 ∨ (s.ch c).reps ≠ d.loopLimit) → d.pace ≠ 0 →
      exec (.answer c .accept 3 q o) s = .next (State.settle ((s.endTransaction c).modCh c fun ch =>
        { counted false ch with state := .pacing, paceTimer := .running d.pace.toNat })))

/-- R46, R52, R53: an accepted GET of a run writes its word to the current position; when the write has completed the word
is counted and, READY being asserted with words still to come, the next GET is sent, its LAST mark set for the last of
them. A refusal with TOLERATE 1 writes nothing and is counted instead of the word. -/
def Obligations.AcceptedGetIsWrittenThenCounted : Prop :=
  ∀ (s : State) (c : Chan), (s.ch c).state = .data → (s.ch c).run.snapshot.dir = .input →
    (∀ (q : BitVec 8) (w : Word), s.resetAsserted = false →
      (s.port c).outstanding = some { kind := .get, seq := q, issuer := .channel } →
      exec (.answer c .accept 4 q (some w)) s = .next (State.settle
        ((s.endTransaction c).request c (s.ch c).run.snapshot.dataSpace
          { addr := wordAddr (s.ch c).run.bufAddr (s.ch c).run.position, body := .write [w] }))) ∧
    (∀ (a : Access) (w : Word) (n : BitVec 8) (t : Timer) (r : MemResponse), a.body = .write [w] → s.undisturbed c →
      (s.port c).outstanding = none → (s.port c).ready = true → (s.mem c).need = none →
      (s.mem c).slot = .outstanding a n t → r.error.getLsbD 0 = false → 1 < (s.ch c).run.remaining →
      (s.ch c).run.inRepetition = true →
      exec (.memoryResponse c n r) s = .next (State.settle (State.sends
        ((s.modMem c fun m => { m with slot := .empty }).modCh c fun ch =>
          { ch with
            words := ch.words + 1, readyTimer := .stopped,
            run := { ch.run with
              position := ch.run.position + 1, remaining := ch.run.remaining - 1, outWord := none,
              portUsed := true } })
        c .get (.mark ((s.ch c).run.position + 2 == (s.ch c).run.snapshot.count.toNat))))) ∧
    (∀ (q : BitVec 8) (o : Option Word), s.resetAsserted = false → (s.ch c).run.snapshot.tolerate = true →
      s.undisturbed c → (s.port c).ready = true → 1 < (s.ch c).run.remaining → (s.ch c).run.inRepetition = true →
      (s.port c).outstanding = some { kind := .get, seq := q, issuer := .channel } →
      exec (.answer c .refuse 4 q o) s = .next (State.settle (State.sends
        ((s.endTransaction c).modCh c fun ch =>
          { ch with
            readyTimer := .stopped,
            run := { ch.run with
              position := ch.run.position + 1, remaining := ch.run.remaining - 1, outWord := none, portUsed := true,
              refusals := if ch.run.refusals = 255 then 255 else ch.run.refusals + 1 } })
        c .get (.mark ((s.ch c).run.position + 2 == (s.ch c).run.snapshot.count.toNat)))))

/-- R25, R59, R60, R78: a run's CLOSE. Accepted or refused, it leads to the write-back of words 5 to 7. Unanswered,
CLEAR is pulsed and CLOSE_UNANSWERED set, and a run that had not faulted ends NO_ANSWER at CLOSE, halted, STOP_ALSO if
it had been stopped. -/
def Obligations.CloseLeadsToTheWriteback : Prop :=
  ∀ (s : State) (c : Chan) (q : BitVec 8), (s.ch c).state = .closing →
    (s.port c).outstanding = some { kind := .close, seq := q, issuer := .channel } →
    let written : State → (Channel → Channel) → State := fun u f =>
      (u.modCh c f).request c (postedSpace (s.ch c).current)
        { addr := wordAddr (s.ch c).run.descAddr 5, body := .write (f (s.ch c)).writebackWords }
    (s.resetAsserted = false → ∀ code o, exec (.answer c code 6 q o) s = .next (State.settle
      (written (s.endTransaction c) fun ch => { ch with state := .writeback }))) ∧
    ((s.port c).timer = .due →
      ((s.ch c).run.faulted = true → exec (.noAnswer c) s = .next (State.settle
        (written ((s.endTransaction c).emit (.clear c)) fun ch =>
          { ch with
            state := .writeback, run := { ch.run with flags := { ch.run.flags with closeUnanswered := true } } }))) ∧
      ((s.ch c).run.faulted = false → exec (.noAnswer c) s = .next (State.settle
        (written ((s.endTransaction c).emit (.clear c)) fun ch =>
          { ch with
            state := .writeback,
            run := { ch.run with
              outcome := some .noAnswer, step := .close, faultAddr := 0,
              flags := { ch.run.flags with
                closeUnanswered := true, halted := true,
                stopAlso := ch.run.flags.stopAlso || ch.run.outcome == some .stopped } } }))))

/-- R36, R37, R60 to R62, R79, R81, R88, R92: the end of the write-back. The record is formed from the run's final state, with
WRITEBACK_FAILED set if the write failed, and offered to the log of the channel's domain. With room it becomes the
tail, and the channel goes to IDLE, or to HALTED with its event source latched if HALTED is set; on a full log the
channel holds it in LOGGING at the tail of the waiting list. With a pending flush count that is not 0, the acceptance is
followed by the FLUSHED record, which becomes the tail in its turn, or, the log now being full, is held. -/
def Obligations.WritebackEndsInTheLog : Prop :=
  ∀ (s : State) (c : Chan) (a : Access) (ws : List Word) (n : BitVec 8) (t : Timer) (r : MemResponse) (o : RunOutcome),
    (s.ch c).state = .writeback → a.body = .write ws → (s.mem c).slot = .outstanding a n t → (s.mem c).need = none →
    (s.ch c).run.outcome = some o →
    let run := (s.ch c).run
    let flags := { run.flags with writebackFailed := run.flags.writebackFailed || r.error.getLsbD 0 }
    let d := (s.ch c).domain
    let record : Record :=
      { outcome := o, flags := flags, channel := c, screenIndex := run.screenIndex, step := run.step,
        reps := (s.ch c).reps, tag := run.snapshot.w1.extractLsb' 16 16, words := (s.ch c).words,
        leadsDone := run.leadsDone, refusals := run.refusals,
        status := if run.flags.statusPresent then run.status else 0, faultAddr := run.faultAddr,
        descriptor := (s.ch c).current }
    let freed : State := s.modMem c fun m => { m with slot := .empty }
    let after : AfterLogging := if flags.halted then .halt else .idle
    let flushed : Record :=
      { outcome := .flushed, flags := { Flags.clear with repsSaturated := (s.ch c).flushCount == 255 }, channel := c,
        screenIndex := 0, step := .none, reps := (s.ch c).flushCount.setWidth 16, tag := 0, words := 0, leadsDone := 0,
        refusals := 0, status := 0, faultAddr := 0, descriptor := 0 }
    let accepted : List Record → State := fun rs =>
      let u := (freed.modLog d fun l => { l with records := l.records ++ rs }).modCh c fun ch =>
        { ch with
          state := if flags.halted then .halted else .idle, run := Run.blank, held := none, afterLogging := after,
          flushCount := 0 }
      if flags.halted then u.latchChannel c else u
    ((s.ch c).flushCount = 0 → (s.log d).records.length < 16 →
      exec (.memoryResponse c n r) s = .next (accepted [record]).settle) ∧
    ((s.ch c).flushCount ≠ 0 → (s.log d).records.length < 15 →
      exec (.memoryResponse c n r) s = .next (accepted [record, flushed]).settle) ∧
    ((s.ch c).flushCount ≠ 0 → (s.log d).records.length = 15 → exec (.memoryResponse c n r) s = .next (State.settle
      ((freed.modLog d fun l => { l with records := l.records ++ [record], waiting := l.waiting ++ [c] }).modCh c fun ch =>
        { ch with
          state := .logging, run := Run.blank, held := some flushed, afterLogging := after, flushCount := 0 }))) ∧
    (16 ≤ (s.log d).records.length → exec (.memoryResponse c n r) s = .next (State.settle
      ((freed.modLog d fun l => { l with waiting := l.waiting ++ [c] }).modCh c fun ch =>
        { ch with state := .logging, run := Run.blank, held := some record, afterLogging := after })))

/-! ### Status words -/

/-- R138: when a status word matches an entry, which entry acts, all that the acting entry does, no other entry having
any effect, and that a word that matches none leaves nothing but itself in the results. A captured word is kept as it
was delivered, whatever acts. -/
def Obligations.ScreeningPicksTheLowestMatch : Prop :=
  (∀ (e : ScreenEntry) (c : Chan) (w : Word), e.matches c w = true ↔
    e.valid = true ∧ e.channels.getLsbD c.val = true ∧
      ∀ i < 32, e.care.getLsbD i = true → w.getLsbD i = e.value.getLsbD i) ∧
  (∀ (s : State) (c : Chan) (w : Word),
    (∀ k, s.actingEntry c w = some k ↔
      (s.screen[k]).matches c w = true ∧ ∀ j < k, (s.screen[j]).matches c w = false) ∧
    (∀ k, s.actingEntry c w = some k →
      let e := s.screen[k]
      s.capture c w = State.modCh
        { s with
          screen := s.screen.set k.val { e with hits := if e.hits = 0xFFFF then 0xFFFF else e.hits + 1 },
          events := { s.events with screen := s.events.screen || e.action == 1 },
          lastHit := if e.action = 1 then some { channel := c, entry := k } else s.lastHit }
        c fun ch =>
          { ch with run := { ch.run with
            status := w, screenIndex := k,
            flags := { ch.run.flags with
              statusPresent := true, screenMatch := true, halted := ch.run.flags.halted || e.action == 2 } } }) ∧
    ((∀ j : Fin 8, (s.screen[j]).matches c w = false) →
      s.capture c w = s.modCh c fun ch =>
        { ch with run := { ch.run with
          status := w, flags := { ch.run.flags with statusPresent := true } } }) ∧
    ((s.capture c w).ch c).run.status = w)

/-- R46, R58, R59, R69, R138 to R142: the answer to a run's ASK is captured and screened in the same step. A word that no entry
matches is only kept; of one that matches, the acting entry's HITS count it, SCREEN_MATCH and its index are kept, a HALT sets
HALTED, and an EVENT latches SCREEN and writes SCR_LAST_HIT. An ASK refused with TOLERATE 1 captures no word, and the refusal is
counted. The run then closes NORMAL, whatever the hub state; but with a STOP pending it ends STOPPED and closes ABORT. -/
def Obligations.StatusWordIsScreenedThenClosed : Prop :=
  ∀ (s : State) (c : Chan) (q : BitVec 8) (w : Word), s.resetAsserted = false →
    (s.ch c).state = .status → (s.ch c).run.portUsed = true →
    (s.port c).outstanding = some { kind := .ask, seq := q, issuer := .channel } →
    let closes : State → (Run → Run) → State := fun u f =>
      if (s.ch c).stopPending then
        State.sends
          (u.modCh c fun ch =>
            { ch with
              state := .closing, stopPending := false, readyTimer := .stopped, paceTimer := .stopped,
              run := { f ch.run with outWord := none, outcome := some .stopped } })
          c .close (.close .abort)
      else State.sends (u.modCh c fun ch => { ch with state := .closing, run := f ch.run }) c .close (.close .normal)
    ((s.ch c).run.snapshot.tolerate = true → ∀ o, exec (.answer c .refuse 5 q o) s = .next (State.settle
      (closes (s.endTransaction c) fun r =>
        { r with refusals := if r.refusals = 255 then 255 else r.refusals + 1 }))) ∧
    (s.actingEntry c w = none → exec (.answer c .accept 5 q (some w)) s = .next (State.settle
      (closes (s.endTransaction c) fun r => { r with status := w, flags := { r.flags with statusPresent := true } }))) ∧
    ∀ k, s.actingEntry c w = some k →
      let e := s.screen[k]
      let hit : State :=
        { s.endTransaction c with
          screen := s.screen.set k.val { e with hits := if e.hits = 0xFFFF then 0xFFFF else e.hits + 1 },
          events := { s.events with screen := s.events.screen || e.action == 1 },
          lastHit := if e.action = 1 then some { channel := c, entry := k } else s.lastHit }
      exec (.answer c .accept 5 q (some w)) s = .next (State.settle
        (closes hit fun r =>
          { r with
            status := w, screenIndex := k,
            flags := { r.flags with statusPresent := true, screenMatch := true, halted := r.flags.halted || e.action == 2 } }))

/-- R145, R81: the end of an attention service, its log having room. A word that no entry matches, or a REFUSE, is
recorded as ATTENTION_SERVICE and the channel is IDLE again; an unanswered ASK pulses CLEAR and is recorded as
NO_ANSWER at ASK, and the channel halts with its event source latched. -/
def Obligations.ServiceEndsInItsRecord : Prop :=
  ∀ (s : State) (c : Chan) (q : BitVec 8), (s.ch c).state = .servicing → (s.ch c).flushCount = 0 →
    (s.ch c).run = Run.blank → (s.log (s.ch c).domain).records.length < 16 →
    (s.port c).outstanding = some { kind := .ask, seq := q, issuer := .channel } →
    let record : RunOutcome → RunStep → Flags → Word → Record := fun o step f w =>
      { outcome := o, flags := f, channel := c, screenIndex := 0, step := step, reps := 0, tag := 0, words := 0,
        leadsDone := 0, refusals := 0, status := w, faultAddr := 0, descriptor := 0 }
    let logged : State → Record → AfterLogging → State := fun u rec after =>
      (u.modLog (s.ch c).domain fun l => { l with records := l.records ++ [rec] }).modCh c fun ch =>
        { ch with
          state := if rec.flags.halted then .halted else .idle, run := Run.blank, held := none, afterLogging := after }
    (s.resetAsserted = false → ∀ w, (∀ j : Fin 8, (s.screen[j]).matches c w = false) →
      exec (.answer c .accept 5 q (some w)) s = .next (State.settle (logged (s.endTransaction c)
        (record .attentionService .none { Flags.clear with statusPresent := true } w) .idle))) ∧
    (s.resetAsserted = false → ∀ o, exec (.answer c .refuse 5 q o) s = .next (State.settle
      (logged (s.endTransaction c) (record .attentionService .none Flags.clear 0) .idle))) ∧
    ((s.port c).timer = .due → exec (.noAnswer c) s = .next (State.settle (State.latchChannel
      (logged ((s.endTransaction c).emit (.clear c)) (record .noAnswer .ask { Flags.clear with halted := true } 0) .halt)
      c)))

/-- R16, R25, R26, R30, R97, R98, R103 to R105, R107, R115, R127, R137, R140, R148, R166, R168, R171, R173, R184, R185, sections
2.2, 5.1, 12.5 and 12.6: where the fields lie in words 5 to
7 of the write-back, which stand in that order, in the words of a record, as LOG_HEAD presents it, and in the registers that
show the state of the hub, of a channel, its port, the direct slot, the trap slot, a log and the screen; that each read/write
register reads back the value it holds, and a register that is only written reads 0; and what a read of the window answers: the
register at its offset, or 0 at an unmapped one, if the Guard permits it (during INITIALISING only ID, and HUB_STATUS to domain 0),
and 0 otherwise, as for an access that is not 32 bits wide at a multiple of 4. WRITEBACK_FAILED is never set in word 5; word 7 is the captured status word, or 0; LOG_HEAD of an empty log, an empty trap slot and SCR_LAST_HIT
before any hit read 0; and a bit that belongs to no field reads 0. -/
def Obligations.ResultWordsHoldTheirFields : Prop :=
  (∀ (r : Run) (o : RunOutcome), r.outcome = some o →
    r.word5.extractLsb' 0 8 = o.code ∧
    (List.range 8).map (fun i => r.word5.getLsbD (8 + i)) =
      [r.flags.statusPresent, r.flags.screenMatch, r.flags.closeUnanswered, false, r.flags.halted, r.flags.hailEnd,
        r.flags.stopAlso, r.flags.repsSaturated] ∧
    r.word5.extractLsb' 16 3 = r.leadsDone ∧ (r.word5.extractLsb' 19 3).toNat = r.screenIndex.val ∧
    r.word5.extractLsb' 22 2 = 0 ∧ r.word5.extractLsb' 24 8 = r.refusals) ∧
  (∀ ch : Channel, ch.word6.extractLsb' 0 16 = ch.words ∧ ch.word6.extractLsb' 16 16 = ch.reps) ∧
  (∀ r : Record,
    (r.word 0).extractLsb' 0 8 = r.outcome.code ∧
    (List.range 8).map (fun i => (r.word 0).getLsbD (8 + i)) =
      [r.flags.statusPresent, r.flags.screenMatch, r.flags.closeUnanswered, r.flags.writebackFailed, r.flags.halted,
        r.flags.hailEnd, r.flags.stopAlso, r.flags.repsSaturated] ∧
    ((r.word 0).extractLsb' 16 3).toNat = r.channel.val ∧ ((r.word 0).extractLsb' 19 3).toNat = r.screenIndex.val ∧
    (r.word 0).extractLsb' 22 3 = r.step.code ∧ (r.word 0).extractLsb' 25 6 = 0 ∧ (r.word 0).getLsbD 31 = true ∧
    (r.word 1).extractLsb' 0 16 = r.reps ∧ (r.word 1).extractLsb' 16 16 = r.tag ∧
    (r.word 2).extractLsb' 0 16 = r.words ∧ (r.word 2).extractLsb' 16 3 = r.leadsDone ∧
    (r.word 2).extractLsb' 19 5 = 0 ∧ (r.word 2).extractLsb' 24 8 = r.refusals ∧
    r.word 3 = r.status ∧ r.word 4 = r.faultAddr ∧ r.word 5 = r.descriptor) ∧
  (∀ r : Run, r.word7 = if r.flags.statusPresent then r.status else 0) ∧
  (∀ ch : Channel, ch.writebackWords = [ch.run.word5, ch.word6, ch.run.word7]) ∧
  (∀ s : State,
    (∀ (l : Dom) (k : Fin 6),
      ((s.log l).records = [] → s.readReg (.log l (.head k)) = 0) ∧
      ∀ r rest, (s.log l).records = r :: rest → s.readReg (.log l (.head k)) = r.word k) ∧
    (∀ l : Dom, let w := s.readReg (.log l .count)
      w.extractLsb' 0 5 = BitVec.ofNat 5 (s.log l).records.length ∧ w.extractLsb' 5 3 = 0 ∧
      w.extractLsb' 8 4 = BitVec.ofNat 4 (s.log l).waiting.length ∧ w.extractLsb' 12 20 = 0) ∧
    (let w := s.readReg .hubStatus
     w.extractLsb' 0 2 = s.hubState.code ∧ w.extractLsb' 2 2 = 0 ∧ w.getLsbD 4 = s.supplyWarn ∧
     w.extractLsb' 5 3 = 0 ∧ w.extractLsb' 8 2 = s.hubLastCmd.code ∧ w.extractLsb' 10 22 = 0) ∧
    (let w := s.readReg .dirStatus
     w.extractLsb' 0 4 = s.direct.result.code ∧ (w.extractLsb' 4 3).toNat = s.direct.port.val ∧ w.getLsbD 7 = false ∧
     w.extractLsb' 8 3 = s.direct.kind ∧ w.extractLsb' 11 5 = 0 ∧ w.getLsbD 16 = s.direct.overrun ∧
     w.extractLsb' 17 15 = 0) ∧
    (s.lastHit = none → s.readReg .lastHit = 0) ∧
    (∀ h, s.lastHit = some h → let w := s.readReg .lastHit
      (w.extractLsb' 0 3).toNat = h.entry.val ∧ w.getLsbD 3 = false ∧ (w.extractLsb' 4 3).toNat = h.channel.val ∧
      w.extractLsb' 7 24 = 0 ∧ w.getLsbD 31 = true) ∧
    (∀ k : Fin 8, let e := s.screen[k]
      let w := s.readReg (.screen k 0)
      w.extractLsb' 0 8 = e.channels ∧ w.extractLsb' 8 2 = e.action ∧ w.extractLsb' 10 21 = 0 ∧ w.getLsbD 31 = e.valid ∧
      s.readReg (.screen k 1) = e.value ∧ s.readReg (.screen k 2) = e.care ∧
      s.readReg (.screen k 3) = e.hits.setWidth 32) ∧
    (s.readReg .tickDivider = s.tickDivider.setWidth 32 ∧ s.readReg .memTimeout = s.memTimeout.setWidth 32 ∧
      (∀ t : Fin 3, let x := s.windows[t]
        s.readReg (.hostBase t) = x.hostBase.setWidth 32 ∧ s.readReg (.hostSize t) = x.hostSize.setWidth 32 ∧
        s.readReg (.stageBase t) = x.stageBase.setWidth 32 ∧ s.readReg (.stageSize t) = x.stageSize.setWidth 32) ∧
      s.readReg .evcEnable = s.events.enable.setWidth 32 ∧ s.readReg .evcRoute = s.events.route ∧
      s.readReg .evcWakeEnable = s.events.wakeEnable.setWidth 32 ∧ s.readReg .dirWordOut = s.direct.wordOut ∧
      s.readReg .dirWordIn = s.direct.wordIn ∧
      (∀ l : Dom, s.readReg (.log l .threshold) = (s.log l).threshold.setWidth 32 ∧ s.readReg (.log l .pop) = 0) ∧
      ∀ r ∈ [Reg.hubCommand, .assign, .trapAck, .evcClear, .dirCommand], s.readReg r = 0) ∧
    (∀ (d : Dom) (size : Size) (off : Offset),
      let register : Word := match regAt off with
        | some r => s.readReg r
        | none => 0
      let granted := d = 0 ∨ off.toNat < 4 ∨
        (∃ c : Chan, (s.ch c).domain = d ∧ 0x400 + 0x80 * c.val ≤ off.toNat ∧ off.toNat < 0x480 + 0x80 * c.val) ∨
        (0x800 + 0x40 * d.val ≤ off.toNat ∧ off.toNat < 0x840 + 0x40 * d.val)
      ((size ≠ .word ∨ off.toNat % 4 ≠ 0) → s.readWindow d size off = 0) ∧
      (off.toNat % 4 = 0 → s.hubState = .initialising →
        s.readWindow d .word off = if off = 0 ∨ (off = 4 ∧ d = 0) then register else 0) ∧
      (off.toNat % 4 = 0 → s.hubState ≠ .initialising →
        (granted → s.readWindow d .word off = register) ∧ (¬ granted → s.readWindow d .word off = 0))) ∧
    (s.trap = none → ∀ k, s.readReg (.trapSlot k) = 0) ∧
    (∀ t, s.trap = some t → let w := s.readReg (.trapSlot 0)
      w.extractLsb' 0 3 = t.kind.code ∧ w.getLsbD 3 = false ∧ (w.extractLsb' 4 2).toNat = t.domain.val ∧
      w.extractLsb' 6 2 = 0 ∧
      (w.extractLsb' 8 7).toNat = (match t.channel with
        | some c => c.val
        | none => 127) ∧
      w.extractLsb' 15 16 = 0 ∧ w.getLsbD 31 = true ∧ s.readReg (.trapSlot 1) = t.offending ∧
      s.readReg (.trapSlot 2) = s.lost.setWidth 32 ∧ s.readReg (.trapSlot 3) = t.extent.setWidth 32) ∧
    ∀ c : Chan,
      (let w := s.readReg (.ch c .status)
       let ch := s.ch c
       w.extractLsb' 0 4 = ch.state.code ∧ w.extractLsb' 4 3 = (s.wait c).code ∧ w.getLsbD 7 = ch.armed ∧
       w.getLsbD 8 = ch.stopPending ∧ w.extractLsb' 9 3 = ch.lastCmd.code ∧
       w.extractLsb' 12 3 = BitVec.ofNat 3 ch.queue.length ∧ w.getLsbD 15 = false ∧ w.extractLsb' 16 8 = ch.flushCount ∧
       (w.extractLsb' 24 2).toNat = ch.domain.val ∧ w.getLsbD 26 = ch.pendingDomain.isSome ∧
       (w.extractLsb' 27 2).toNat = (match ch.pendingDomain with
         | some d => d.val
         | none => 0) ∧
       w.getLsbD 29 = ch.detached ∧ w.getLsbD 30 = ch.detachPending ∧ w.getLsbD 31 = false) ∧
      (let w := s.readReg (.ch c .port)
       let p := s.port c
       w.getLsbD 0 = p.outstanding.isSome ∧ w.extractLsb' 2 2 = 0 ∧ w.getLsbD 7 = false ∧
       (p.outstanding = none → w.getLsbD 1 = false ∧ w.extractLsb' 4 3 = 0) ∧
       (∀ t, p.outstanding = some t → (w.getLsbD 1 = true ↔ t.issuer = .direct) ∧ w.extractLsb' 4 3 = t.kind.code) ∧
       w.extractLsb' 8 8 = p.seq ∧ w.getLsbD 16 = p.ready ∧ w.getLsbD 17 = p.hail ∧ w.getLsbD 18 = p.hailSeen ∧
       w.getLsbD 19 = p.stray ∧ w.extractLsb' 20 12 = 0) ∧
      (let w := s.readReg (.ch c .config)
       w.extractLsb' 0 12 = (s.ch c).answerTimeout ∧ w.getLsbD 12 = (s.ch c).autoAsk ∧ w.extractLsb' 13 3 = 0 ∧
       w.extractLsb' 16 16 = (s.ch c).readyTimeout) ∧
      s.readReg (.ch c .postStatus) = (s.ch c).postStatus.code.setWidth 32 ∧
      s.readReg (.ch c .progress) = (s.ch c).word6 ∧ s.readReg (.ch c .current) = (s.ch c).current ∧
      s.readReg (.ch c .command) = 0 ∧ s.readReg (.ch c .post) = 0) ∧
  ((List.map ChState.code [.idle, .loading, .lead, .turn, .data, .pacing, .status, .closing, .writeback, .logging, .halted,
      .servicing] = [0, 1, 2, 3, 4, 5, 6, 7, 8, 9, 10, 11]) ∧
    List.map Wait.code [.none, .answer, .ready, .memory, .store, .log, .pace] = [0, 1, 2, 3, 4, 5, 6] ∧
    List.map ChCmdStatus.code [.none, .accepted, .ignored, .deferred, .rejectedPrivilege] = [0, 1, 2, 3, 4] ∧
    List.map PostStatus.code [.none, .accepted, .quiescing, .domainChanging, .misaligned, .outOfWindow, .queueFull] =
      [0, 1, 2, 3, 4, 5, 6] ∧
    List.map HubState.code [.initialising, .operational, .quiescing, .quiesced] = [0, 1, 2, 3] ∧
    List.map HubCmdStatus.code [.none, .accepted, .ignored, .rejected] = [0, 1, 2, 3] ∧
    List.map DirResult.code [.idle, .busy, .doneAccept, .doneRefuse, .noAnswer, .cancelled, .rejectedBusy,
      .rejectedQuiesce, .rejectedKind] = [0, 1, 2, 3, 4, 5, 6, 7, 8] ∧
    List.map TrapKind.code [.registerAccess, .commandPrivilege, .descriptorRange, .leadRange, .bufferRange,
      .apertureRange] = [1, 2, 3, 4, 5, 6] ∧
    List.map RunOutcome.code [.done, .doneEarly, .stopped, .flushed, .quiesced, .attentionService, .refused, .noAnswer,
      .notReady, .memoryError, .memoryTimeout, .storeParity, .guard, .badDescriptor] =
      [0, 1, 2, 3, 4, 5, 8, 9, 10, 11, 12, 13, 14, 15] ∧
    List.map RunStep.code [.none, .load, .lead, .turn, .put, .get, .ask, .close] = [0, 1, 2, 3, 4, 5, 6, 7])

/-! ### Host writes to a channel -/

/-- R42, R85, R155, R156: the channel commands that act on the channel's own fields alone. START sets the armed flag.
DETACH of domain 0 detaches an IDLE or HALTED channel, is pending on any other, and changes nothing on a detached one;
ATTACH of domain 0 attaches it and withdraws a pending detach. An unassigned value is IGNORED. -/
def Obligations.ChannelCommandsSetTheirFields : Prop :=
  ∀ (s : State) (d : Dom) (c : Chan), s.reachesChannel d c →
    exec (.start d c) s = .next (s.modCh c fun ch => { ch with armed := true, lastCmd := .accepted }) ∧
    (∀ v : Word, v = 0 ∨ 7 < v.toNat →
      exec (.chCommandUnassigned d c v) s = .next (s.modCh c fun ch => { ch with lastCmd := .ignored })) ∧
    (d = 0 →
      exec (.attach d c) s =
        .next (s.modCh c fun ch => { ch with detached := false, detachPending := false, lastCmd := .accepted }) ∧
      ((s.ch c).detached = true → exec (.detach d c) s = .next (s.modCh c fun ch => { ch with lastCmd := .accepted })) ∧
      ((s.ch c).detached = false → (s.ch c).resting → exec (.detach d c) s =
        .next (s.modCh c fun ch => { ch with detached := true, detachPending := false, lastCmd := .accepted })) ∧
      ((s.ch c).detached = false → ¬ (s.ch c).resting → exec (.detach d c) s =
        .next (s.modCh c fun ch => { ch with detachPending := true, lastCmd := .deferred })))

/-- R82: RESUME moves a HALTED channel to IDLE with LAST_CMD ACCEPTED and changes nothing else, from any state in
which no step is left undone; on a channel in any other state it only sets LAST_CMD to IGNORED. -/
def Obligations.ResumeOnlyLeavesHalted : Prop :=
  ∀ (s : State) (d : Dom) (c : Chan), s.reachesChannel d c →
    ((s.ch c).state = .halted → s.caughtUp →
      exec (.resume d c) s = .next (s.modCh c fun ch => { ch with state := .idle, lastCmd := .accepted })) ∧
    ((s.ch c).state ≠ .halted → exec (.resume d c) s = .next (s.modCh c fun ch => { ch with lastCmd := .ignored }))

/-- R41, R67 to R70, R86, R179: STOP always clears the armed flag. Outside LOADING to STATUS it does nothing more. In them it
leaves the stop-pending mark set and is DEFERRED, but for a run that waits for READY or paces, which ends STOPPED at once. A run
that finds the mark at the boundary after an answer or an access ends STOPPED there, and one that finds the hub QUIESCING, and no
STOP, ends QUIESCED: the word or the descriptor is counted or kept as it came, a word not yet sent is discarded, the mark is
cleared and the timers are stopped. With the port used the run then closes ABORT; with the port unused it goes straight to the
write-back. (A run's ASK has its own boundary, R69: StatusWordIsScreenedThenClosed.) -/
def Obligations.StopDisarmsAndEndsTheRun : Prop :=
  (∀ (s : State) (d : Dom) (c : Chan), s.reachesChannel d c →
    ((s.ch c).state ∉ [ChState.loading, .lead, .turn, .data, .pacing, .status] → (s.ch c).stopPending = false →
      exec (.stop d c) s =
        .next (s.modCh c fun ch => { ch with armed := false, lastCmd := .accepted }).settle) ∧
    ((s.ch c).state ∈ [ChState.loading, .lead, .turn, .data, .status] → ¬ s.waitsForReady c →
      exec (.stop d c) s =
        .next (s.modCh c fun ch => { ch with armed := false, stopPending := true, lastCmd := .deferred }).settle) ∧
    (s.waitsForReady c ∨ (s.ch c).state = .pacing →
      let stopped : ChState → Channel → Channel := fun st ch =>
        { ch with
          armed := false, lastCmd := .accepted, state := st, stopPending := false, readyTimer := .stopped,
          paceTimer := .stopped, run := { ch.run with outWord := none, outcome := some .stopped } }
      ((s.ch c).run.portUsed = true → (s.port c).outstanding = none →
        exec (.stop d c) s = .next ((s.modCh c (stopped .closing)).sends c .close (.close .abort)).settle) ∧
      ((s.ch c).run.portUsed = false → exec (.stop d c) s = .next (State.settle
        ((s.modCh c (stopped .writeback)).request c (postedSpace (s.ch c).current)
          { addr := wordAddr (s.ch c).run.descAddr 5,
            body := .write (stopped .writeback (s.ch c)).writebackWords }))))) ∧
  ∀ (s : State) (c : Chan) (o : RunOutcome),
    ((s.ch c).stopPending = true ∧ o = .stopped) ∨
      ((s.ch c).stopPending = false ∧ s.hubState = .quiescing ∧ o = .quiesced) →
    let early : ChState → (Run → Run) → Channel → Channel := fun st f ch =>
      { ch with
        state := st, stopPending := false, readyTimer := .stopped, paceTimer := .stopped,
        run := { f ch.run with outWord := none, outcome := some o } }
    let ends : State → (Channel → Channel) → (Run → Run) → State := fun u g f =>
      if (s.ch c).run.portUsed then
        (u.modCh c fun ch => early .closing f (g ch)).sends c .close (.close .abort)
      else
        (u.modCh c fun ch => early .writeback f (g ch)).request c (postedSpace (s.ch c).current)
          { addr := wordAddr (s.ch c).run.descAddr 5, body := .write (early .writeback f (g (s.ch c))).writebackWords }
    let moved : Run → Run := fun r =>
      { r with
        position := r.position + 1, remaining := r.remaining - 1, inRepetition := r.inRepetition && decide (1 < r.remaining) }
    let counted : Channel → Channel := fun ch => { ch with words := ch.words + 1 }
    (∀ (q : BitVec 8) (w : Option Word) (k : Kind), s.resetAsserted = false → (s.ch c).run.portUsed = true →
      (s.port c).outstanding = some { kind := k, seq := q, issuer := .channel } →
      let accepted := exec (.answer c .accept k.code q w) s
      let refused := exec (.answer c .refuse k.code q w) s
      let tolerated : Run → Run := fun r => { r with refusals := if r.refusals = 255 then 255 else r.refusals + 1 }
      let u := s.endTransaction c
      ((s.ch c).state = .lead → k = .lead →
        let led : Run → Run := fun r => { r with leadsDone := r.leadsDone + 1 }
        accepted = .next (ends u id led).settle ∧
        ((s.ch c).run.snapshot.tolerate = true → refused = .next (ends u id (led ∘ tolerated)).settle)) ∧
      ((s.ch c).state = .turn → k = .turn →
        accepted = .next (ends u id id).settle ∧
        ((s.ch c).run.snapshot.tolerate = true → refused = .next (ends u id tolerated).settle)) ∧
      ((s.ch c).state = .data → k = .put → (s.ch c).run.snapshot.dir = .output →
        accepted = .next (ends u counted moved).settle) ∧
      ((s.ch c).state = .data → (s.ch c).run.snapshot.tolerate = true → k = .put ∨ k = .get →
        refused = .next (ends u id (moved ∘ tolerated)).settle)) ∧
    ∀ (a : Access) (ws : List Word) (i : Instr) (u : State), (s.port c).outstanding = none →
      ((∃ n t r, (s.mem c).slot = .outstanding a n t ∧ (s.mem c).need = none ∧ i = .memoryResponse c n r ∧
          r.error = 0 ∧ ws = [r.w0, r.w1, r.w2, r.w3, r.w4] ∧ u = s.modMem c fun m => { m with slot := .empty }) ∨
        (s.granted = some (.channel c a true) ∧ i = .storeAccessDone ∧
          (∀ n, a.body = .read n → ws = (s.store.readWords a.addr n).map StoreWord.data ∧
            (s.store.readWords a.addr n).all StoreWord.agrees = true) ∧
          u = { s with granted := none, store := a.storeEffect s.store })) →
      (a.body = .read 1 → (s.ch c).state = .lead → exec i s = .next (ends u id id).settle) ∧
      (a.body = .read 1 → (s.ch c).state = .data → (s.ch c).run.snapshot.dir = .output →
        exec i s = .next (ends u id id).settle) ∧
      (∀ v, a.body = .write [v] → (s.ch c).state = .data → (s.ch c).run.snapshot.dir = .input →
        exec i s = .next (ends u counted moved).settle) ∧
      (a.body = .read 5 → (s.ch c).state = .loading →
        let d : Snapshot :=
          { w0 := ws.getD 0 0, w1 := ws.getD 1 0, w2 := ws.getD 2 0, w3 := ws.getD 3 0, w4 := ws.getD 4 0 }
        let poster := (s.ch c).run.poster
        d.formatOk = true → (d.leads ≠ 0 → s.rangeOk poster d.leadSpace d.w2 d.leads.toNat = true) →
        (d.hasData = true → s.rangeOk poster d.dataSpace d.w3 d.count.toNat = true) →
        exec i s = .next (ends u id fun r =>
          { r with
            snapshot := d, leadAddr := s.translate poster d.leadSpace d.w2,
            bufAddr := s.translate poster d.dataSpace d.w3 }).settle)

/-- R35 to R37, R161: FLUSH discards the queue. With nothing queued only LAST_CMD changes. While a run is in progress
the discarded runs are counted, saturating at 255. In IDLE or HALTED they are reported at once, here to a log with
room, and the channel is back in its state with no event source latched. -/
def Obligations.FlushReportsTheDiscardedRuns : Prop :=
  ∀ (s : State) (d : Dom) (c : Chan), s.reachesChannel d c →
    let n := (s.ch c).queue.length
    let record : Record :=
      { outcome := .flushed, flags := Flags.clear, channel := c, screenIndex := 0, step := .none,
        reps := BitVec.ofNat 16 n, tag := 0, words := 0, leadsDone := 0, refusals := 0, status := 0, faultAddr := 0,
        descriptor := 0 }
    ((s.ch c).queue = [] →
      exec (.flush d c) s = .next (s.modCh c fun ch => { ch with lastCmd := .accepted })) ∧
    ((s.ch c).queue ≠ [] → ¬ (s.ch c).resting → exec (.flush d c) s = .next (s.modCh c fun ch =>
      { ch with
        queue := [], flushCount := BitVec.ofNat 8 (min 255 (ch.flushCount.toNat + n)), lastCmd := .accepted })) ∧
    ((s.ch c).queue ≠ [] → n ≤ 6 → (s.ch c).flushCount = 0 → (s.log (s.ch c).domain).records.length < 16 →
      ∀ x ∈ [(ChState.idle, AfterLogging.idle), (.halted, .backToHalted)], (s.ch c).state = x.1 →
        exec (.flush d c) s = .next (State.settle
          ((s.modLog (s.ch c).domain fun l => { l with records := l.records ++ [record] }).modCh c fun ch =>
            { ch with queue := [], lastCmd := .accepted, held := none, afterLogging := x.2 })))

/-- R83, R84, R38, R65, R87, R121, R128, R153, R158: RESET_CHANNEL. The channel's accesses are withdrawn or abandoned,
CLEAR is pulsed, a direct transaction on its port is cancelled, the waiting lists lose the channel, the port's two
flags and the channel's event source are cleared, and the channel is at its reset values, but for LAST_CMD,
CH_POST_STATUS, CH_CONFIG and the domain and detachment it had or was to take. -/
def Obligations.ResetChannelAbandonsEverything : Prop :=
  ∀ (s : State) (d : Dom) (c : Chan), s.reachesChannel d c →
    let cancels := s.direct.result = .busy ∧ s.direct.port = c
    exec (.resetChannel d c) s = .next (State.settle
      { s with
        slots := s.slots.set c.val
          { s.mem c with
            slot := match (s.mem c).slot with
              | .outstanding _ k t => .abandoned k t
              | .abandoned k t => .abandoned k t
              | _ => .empty,
            need := none },
        storeRequests := s.storeRequests.set c.val none,
        granted := match s.granted with
          | some (.channel x a w) => some (.channel x a (w && x != c))
          | g => g,
        ports := s.ports.set c.val
          { s.port c with outstanding := none, timer := .stopped, hailSeen := false, stray := false },
        outputs := s.outputs ++ [.clear c],
        direct := if cancels then { s.direct with result := .cancelled, wordIn := 0 } else s.direct,
        events := { s.events with
          direct := s.events.direct || decide cancels, channels := s.events.channels.set c.val false },
        logs := s.logs.map fun l => { l with waiting := l.waiting.filter (· ≠ c) },
        channels := s.channels.set c.val
          { Channel.reset with
            lastCmd := .accepted, postStatus := (s.ch c).postStatus,
            domain := (s.ch c).pendingDomain.getD (s.ch c).domain,
            detached := (s.ch c).detached || (s.ch c).detachPending, answerTimeout := (s.ch c).answerTimeout,
            readyTimeout := (s.ch c).readyTimeout, autoAsk := (s.ch c).autoAsk } })

/-- R31, R32, R34, R112: a request to post is decided by the first check that fails: quiesce, a pending domain change,
bits 4:1 of the value, the range of eight words in the writer's window (recorded as a violation), the six places of
the queue. Only the status changes then; a request that passes is appended with its poster. -/
def Obligations.PostIsDecidedByTheFirstFailure : Prop :=
  ∀ (s : State) (d : Dom) (c : Chan) (v : Word), s.reachesChannel d c →
    let status : PostStatus → State := fun p => s.modCh c fun ch => { ch with postStatus := p }
    let inWindow := s.rangeOk d (if v.getLsbD 0 then .staging else .host) (v &&& 0xFFFFFFFE) 8
    exec (.post d c v) s = .next
      (if s.hubState = .quiescing ∨ s.hubState = .quiesced then status .quiescing
      else if (s.ch c).pendingDomain.isSome then status .domainChanging
      else if v.extractLsb' 1 4 ≠ 0 then status .misaligned
      else if inWindow = false then
        (status .outOfWindow).recordTrap
          { kind := .descriptorRange, domain := d, channel := some c, offending := v, extent := 8 }
      else if 6 ≤ (s.ch c).queue.length then status .queueFull
      else s.modCh c fun ch =>
        { ch with queue := ch.queue ++ [{ posted := v, poster := d }], postStatus := .accepted })

/-- R9, R17: a write to CH_PORT acts on STRAY only. A 1 clears the stray-answer flag, a 0 leaves it, the other bits are
ignored; and a write by a domain that may not write the channel's group only records the violation. Of a moment at which an
answer arrives too (State.moment: log entry 1), the answer is taken first and the write decided in the state that it leaves. A
stray answer's setting prevails: the flag is set after the moment, and a write that reaches the channel has done nothing. After a
matching answer the write clears the flag. A REGISTER_WRITE of a value with bit 19 set is ill-formed, and that it does what the
row CH_PORT_STRAY_CLEAR does is the model's choice (log entry 14). -/
def Obligations.PortWritesClearStrayOnly : Prop :=
  ∀ (s : State) (d : Dom) (c : Chan) (v : Word),
    let off : Offset := BitVec.ofNat 12 (0x41C + 0x80 * c.val)
    let cleared : State := s.modPort c fun p => { p with stray := false }
    (s.reachesChannel d c →
      exec (.chPortStrayClear d c) s = .next cleared ∧
      exec (.registerWrite d .word off v) s = .next (if v.getLsbD 19 then cleared else s)) ∧
    (s.hubState ≠ .initialising → d ≠ 0 → (s.ch c).domain ≠ d →
      let trapped : State := s.recordTrap
        { kind := .registerAccess, domain := d, channel := some c, offending := off.setWidth 32, extent := 0 }
      exec (.chPortStrayClear d c) s = .next trapped ∧ exec (.registerWrite d .word off v) s = .next trapped) ∧
    (∀ code kind seq word,
      let answer : Instr := .answer c code kind seq word
      let write : Instr := .chPortStrayClear d c
      let matching := ∃ t, (s.port c).outstanding = some t ∧ t.matchedBy code kind seq word = true
      ∀ is ∈ [[answer, write], [write, answer]],
        s.inOrder is = [answer, write] ∧
        (¬ matching → s.resetAsserted = false →
          let left : State := (s.modPort c fun p => { p with stray := true }).settle
          ((s.moment is).port c).stray = true ∧ (left.reachesChannel d c → s.moment is = left)) ∧
        (matching →
          let left : State := (s.takeCounted answer).settle
          left.reachesChannel d c → s.moment is = left.modPort c fun p => { p with stray := false }))

/-! ### Host writes to the hub -/

/-- R177, R178, R181, R182: the hub commands and the changes of SUPPLY_WARN that only set the hub's own state.
RESUME_ALL leaves QUIESCED while SUPPLY_WARN is deasserted, and is REJECTED otherwise; ENTER_QUIESCE outside
OPERATIONAL, and an unassigned value, are IGNORED; an assertion outside OPERATIONAL, and any deassertion, show in WARN
only. -/
def Obligations.HubCommandsSetTheHubState : Prop :=
  ∀ s : State,
    (s.reachesHub 0 →
      (s.hubState = .quiesced → s.supplyWarn = false →
        exec (.resumeAll 0) s = .next { s with hubState := .operational, hubLastCmd := .accepted }) ∧
      ((s.hubState ≠ .quiesced ∨ s.supplyWarn = true) →
        exec (.resumeAll 0) s = .next { s with hubLastCmd := .rejected }) ∧
      (s.hubState ≠ .operational → exec (.enterQuiesce 0) s = .next { s with hubLastCmd := .ignored }) ∧
      (∀ v : Word, v = 0 ∨ 3 < v.toNat →
        exec (.hubCommandUnassigned 0 v) s = .next { s with hubLastCmd := .ignored })) ∧
    (s.hubState ≠ .operational → exec .supplyWarnAssert s = .next { s with supplyWarn := true }) ∧
    exec .supplyWarnDeassert s = .next { s with supplyWarn := false }

/-- R51, R56, R70, R178: an OPERATIONAL hub enters QUIESCING by ENTER_QUIESCE or by SUPPLY_WARN. Where no channel
waits for READY or paces nothing else changes but what `State.settle` does. Where one does and no other, with no STOP
pending, its run ends QUIESCED in the same step: by a CLOSE ABORT, or, with its port unused, straight by the write-back. (A run
that meets QUIESCING at a later boundary ends as StopDisarmsAndEndsTheRun says.) -/
def Obligations.QuiesceEndsTheWaitingRuns : Prop :=
  ∀ s : State, s.hubState = .operational →
    ∀ x ∈ [(Instr.enterQuiesce 0, { s with hubState := .quiescing, hubLastCmd := .accepted }),
        (.supplyWarnAssert, { s with hubState := .quiescing, supplyWarn := true })],
      ((∀ c, ¬ s.waitsForReady c ∧ (s.ch c).state ≠ .pacing) → exec x.1 s = .next x.2.settle) ∧
      (∀ c, (s.waitsForReady c ∨ (s.ch c).state = .pacing) →
        (∀ y, y ≠ c → ¬ s.waitsForReady y ∧ (s.ch y).state ≠ .pacing) → (s.ch c).stopPending = false →
        let ended : ChState → Channel → Channel := fun st ch =>
          { ch with
            state := st, readyTimer := .stopped, paceTimer := .stopped,
            run := { ch.run with outWord := none, outcome := some .quiesced } }
        ((s.ch c).run.portUsed = true → (s.port c).outstanding = none →
          exec x.1 s = .next (State.settle (State.sends (x.2.modCh c (ended .closing)) c .close (.close .abort)))) ∧
        ((s.ch c).run.portUsed = false →
          exec x.1 s = .next (State.settle (State.request (x.2.modCh c (ended .writeback)) c (postedSpace (s.ch c).current)
            { addr := wordAddr (s.ch c).run.descAddr 5, body := .write (ended .writeback (s.ch c)).writebackWords }))))

/-- R176, R18, R128, R133: HUB_RESET leaves the power-on values, CLEAR being pulsed on every port, but for the store,
the memory accesses issued (abandoned with their timers), the access numbers, the access in the store, the host
accesses that wait, the tick period in progress, the input levels and LAST_CMD; and the hub is OPERATIONAL, or
quiesces if SUPPLY_WARN is asserted. -/
def Obligations.HubResetKeepsOnlyWhatIsNotItsOwn : Prop :=
  ∀ s : State, s.reachesHub 0 →
    exec (.hubReset 0) s = .next (State.settle
      { State.reset with
        hubState := if s.supplyWarn then .quiescing else .operational,
        hubLastCmd := .accepted, supplyWarn := s.supplyWarn, tickPeriod := s.tickPeriod, store := s.store,
        hostWaiting := s.hostWaiting, pending := s.pending,
        slots := s.slots.map fun m =>
          { m with
            slot := match m.slot with
              | .outstanding _ k t => .abandoned k t
              | .abandoned k t => .abandoned k t
              | _ => .empty,
            need := none },
        granted := match s.granted with
          | some (.channel x a _) => some (.channel x a false)
          | g => g,
        ports := s.ports.map fun p => { Port.reset with ready := p.ready, hail := p.hail },
        outputs := s.outputs ++ [.clear 0, .clear 1, .clear 2, .clear 3, .clear 4, .clear 5, .clear 6, .clear 7] })

/-! ### The logs -/

/-- R95, R36, R37, R62, R81, R99, R100: the writes to a log. A LOG_POP removes the head record and admits, at the tail, the
record held by the channel at the head of the waiting list, which leaves LOGGING for the state its record calls for; with a
pending flush count that is not 0 it stays, holding its FLUSHED record at the tail of the list of the log, which is full again;
on an empty log nothing is removed. A threshold of 0 to 16 is set and reads back; a larger value, tested whole, is
ignored. The log's event source follows at once: it is pending exactly while the threshold is not 0 and the log holds
at least that many records. -/
def Obligations.LogWritesActOnTheirLog : Prop :=
  (∀ (s : State) (d l : Dom), s.reachesLog d l →
     ((s.log l).records = [] → exec (.logPop d l) s = .next s.settle) ∧
     (∀ r rest, (s.log l).records = r :: rest →
       ((s.log l).waiting = [] →
         exec (.logPop d l) s = .next (s.modLog l fun x => { x with records := rest }).settle) ∧
       (∀ c others held, (s.log l).waiting = c :: others → (s.ch c).held = some held → (s.ch c).flushCount = 0 →
         let admitted : State :=
           (s.modLog l fun x => { x with records := rest ++ [held], waiting := others }).modCh c fun ch =>
             { ch with state := if ch.afterLogging = .idle then .idle else .halted, held := none }
         exec (.logPop d l) s = .next
           (if (s.ch c).afterLogging = .halt then admitted.latchChannel c else admitted).settle) ∧
       (∀ c others held, (s.log l).waiting = c :: others → (s.ch c).held = some held → (s.ch c).flushCount ≠ 0 →
         (s.ch c).domain = l → rest.length = 15 →
         let flushed : Record :=
           { outcome := .flushed, flags := { Flags.clear with repsSaturated := (s.ch c).flushCount == 255 },
             channel := c, screenIndex := 0, step := .none, reps := (s.ch c).flushCount.setWidth 16, tag := 0, words := 0,
             leadsDone := 0, refusals := 0, status := 0, faultAddr := 0, descriptor := 0 }
         exec (.logPop d l) s = .next (State.settle
           ((s.modLog l fun x => { x with records := rest ++ [held], waiting := others ++ [c] }).modCh c fun ch =>
             { ch with state := .logging, held := some flushed, flushCount := 0 }))))) ∧
  ∀ (s : State) (d l : Dom) (v : Word), s.reachesLog d l →
    (v.toNat ≤ 16 → ∃ t, exec (.logThresholdWrite d l v) s = .next t ∧
      t = s.modLog l (fun x => { x with threshold := v.extractLsb' 0 5 }) ∧
      t.readReg (.log l .threshold) = v ∧
      (t.sources.getLsbD (4 + l.val) = true ↔ v ≠ 0 ∧ v.toNat ≤ (s.log l).records.length)) ∧
    (16 < v.toNat → exec (.logThresholdWrite d l v) s = .next s)

/-! ### The Guard, the Status Screen and the Event Concentrator -/

/-- R118, R86: GRD_ASSIGN, by the first row of its table: naming the channel's own domain withdraws a pending change;
an empty channel changes at once; on any other the change is pending. LAST_CMD shows which. -/
def Obligations.AssignmentWaitsForAnEmptyChannel : Prop :=
  ∀ (s : State) (c : Chan) (d : Dom) (v : Word), s.reachesHub 0 → (v.extractLsb' 0 3).toNat = c.val →
    (v.extractLsb' 4 2).toNat = d.val →
    let empty := (s.ch c).resting ∧ (s.ch c).queue = [] ∧ (s.ch c).held = none
    ((s.ch c).domain = d → exec (.grdAssign 0 v) s =
      .next (s.modCh c fun ch => { ch with pendingDomain := none, lastCmd := .accepted })) ∧
    ((s.ch c).domain ≠ d → empty → exec (.grdAssign 0 v) s =
      .next (s.modCh c fun ch => { ch with domain := d, pendingDomain := none, lastCmd := .accepted })) ∧
    ((s.ch c).domain ≠ d → ¬ empty → exec (.grdAssign 0 v) s =
      .next (s.modCh c fun ch => { ch with pendingDomain := some d, lastCmd := .deferred }))

/-- R117: a write of domain 0 to GRD_TRAP_ACK, of any value, empties the trap slot and clears LOST, so that its four
words read 0; while the slot is empty it changes nothing. A tenant's write is a violation, recorded or counted; a violation
found at the same moment is taken after the acknowledgement, and fills the emptied slot with LOST 0; and the register reads as
0. That every step of the hub's own is taken after an acknowledgement of its moment, also one that finds no violation and so
does not meet the slot, is the order of State.inOrder, the model's choice (log entry 1); so is what a REGISTER_WRITE to 0x160,
an ill-formed command, does (log entry 14). -/
def Obligations.TrapAckEmptiesTheSlot : Prop :=
  ∀ s : State, s.hubState ≠ .initialising →
    (∀ t, s.trap = some t → ∃ u, exec (.grdTrapAck 0) s = .next u ∧ u = { s with trap := none, lost := 0 } ∧
      (∀ w, u.readReg (.trapSlot w) = 0) ∧ ∀ x, (u.recordTrap x).trap = some x ∧ (u.recordTrap x).lost = 0) ∧
    (∀ v, exec (.registerWrite 0 .word 0x160 v) s = exec (.grdTrapAck 0) s) ∧
    (s.trap = none → exec (.grdTrapAck 0) s = .next s) ∧
    (∀ d : Dom, d ≠ 0 → exec (.grdTrapAck d) s = .next (s.recordTrap
      { kind := .registerAccess, domain := d, channel := none, offending := 0x160, extent := 0 })) ∧
    (∀ i : Instr, senderOf i = none →
      s.inOrder [i, .grdTrapAck 0] = [.grdTrapAck 0, i] ∧ s.inOrder [.grdTrapAck 0, i] = [.grdTrapAck 0, i]) ∧
    s.readReg .trapAck = 0

/-- R116: a violation fills the empty slot, with LOST 0, and while the slot is full it is only counted, saturating at
255. R103 to R106: during INITIALISING every host write is ignored; past it a tenant's write to a region or a group it
is not granted only records a violation, as does a refused access of any kind, a read answering 0, and DETACH or
ATTACH by the tenant that owns the channel is refused with LAST_CMD REJECTED_PRIVILEGE. -/
def Obligations.ViolationsOnlyFillTheTrapSlot : Prop :=
  (∀ (s : State) (t : Trap), s.recordTrap t =
    if s.trap = none then { s with trap := some t, lost := 0 }
    else { s with lost := if s.lost = 255 then 255 else s.lost + 1 }) ∧
  (∀ (s : State) (d : Dom) (c p : Chan) (l : Dom) (v : Word) (last : Bool) (code : CloseCode) (k : BitVec 3) (e : Fin 8),
    let channelWrites : List (Instr × Nat) :=
      [(.post d c v, 0x408), (.start d c, 0x400), (.stop d c, 0x400), (.flush d c, 0x400), (.resume d c, 0x400),
        (.resetChannel d c, 0x400), (.detach d c, 0x400), (.attach d c, 0x400), (.chCommandUnassigned d c v, 0x400),
        (.chPortStrayClear d c, 0x41C)]
    let logWrites : List (Instr × Nat) := [(.logPop d l, 0x808), (.logThresholdWrite d l v, 0x804)]
    let hubWrites : List (Instr × Nat) :=
      [(.hubReset d, 0x008), (.enterQuiesce d, 0x008), (.resumeAll d, 0x008), (.hubCommandUnassigned d v, 0x008),
        (.grdAssign d v, 0x140), (.grdTrapAck d, 0x160), (.scrHitsClear d e, 0x30C + 0x10 * e.val),
        (.evcClear d v, 0x208), (.directLead d p, 0x3C0), (.directTurn d p, 0x3C0), (.directPut d p last, 0x3C0),
        (.directGet d p last, 0x3C0), (.directAsk d p, 0x3C0), (.directClose d p code, 0x3C0),
        (.directInvalidKind d p k, 0x3C0)]
    (s.hubState = .initialising →
      ∀ x ∈ channelWrites ++ logWrites ++ hubWrites, exec x.1 s = .next s) ∧
    (s.hubState ≠ .initialising → d ≠ 0 →
      let trapped : Option Chan → Nat → State := fun ch off => s.recordTrap
        { kind := .registerAccess, domain := d, channel := ch, offending := BitVec.ofNat 32 off, extent := 0 }
      ((s.ch c).domain ≠ d → ∀ x ∈ channelWrites, exec x.1 s = .next (trapped (some c) (x.2 + 0x80 * c.val))) ∧
      (l ≠ d → ∀ x ∈ logWrites, exec x.1 s = .next (trapped none (x.2 + 0x40 * l.val))) ∧
      (∀ x ∈ hubWrites, exec x.1 s = .next (trapped none x.2)) ∧
      ((s.ch c).domain = d → ∀ i ∈ [Instr.detach d c, .attach d c],
        exec i s = .next ((s.modCh c fun ch => { ch with lastCmd := .rejectedPrivilege }).recordTrap
          { kind := .commandPrivilege, domain := d, channel := some c,
            offending := BitVec.ofNat 32 (0x400 + 0x80 * c.val), extent := 0 })))) ∧
  (∀ (s : State) (d : Dom) (off : Offset) (a : HostAccess), s.hubState ≠ .initialising → d ≠ 0 → off.toNat % 4 = 0 →
    s.grants d off = false →
    let trapped : State := s.recordTrap
      { kind := .registerAccess, domain := d, channel := groupChannel off, offending := off.setWidth 32, extent := 0 }
    (exec (.registerAccessViolation d off a) s = .next (match a with
      | .write _ => trapped
      | .read => trapped.emit (.hostResponse d 0 false))) ∧
    ∀ v, exec (.registerWrite d .word off v) s = .next trapped) ∧
  (∀ (s : State) (d : Dom) (size : Size) (off : Offset) (v : Word), s.hubState = .initialising →
    exec (.registerWrite d size off v) s = .next s)

/-- R63, R107, R127, R137, R162, R166, R168, R171, R184, R185, R187: the writes to single registers. A write to word 3
of a screen entry sets its HITS to 0; a write to EVC_CLEAR clears each latched source whose bit is 1. A register that
has no row of its own and can be written takes the bits of its fields; a read-only or unmapped offset, and an access
that is not 32 bits wide at a multiple of 4, change nothing. -/
def Obligations.RegisterWritesSetTheirFields : Prop :=
  (∀ s : State, s.reachesHub 0 →
     (∀ k : Fin 8, exec (.scrHitsClear 0 k) s =
       .next { s with screen := s.screen.set k.val { s.screen[k] with hits := 0 } }) ∧
     (∀ v : Word, ∃ e : Events, exec (.evcClear 0 v) s = .next { s with events := e } ∧
       (e.screen = true ↔ s.events.screen = true ∧ v.getLsbD 2 = false) ∧
       (e.direct = true ↔ s.events.direct = true ∧ v.getLsbD 3 = false) ∧
       (∀ c : Chan, e.channels[c] = true ↔ s.events.channels[c] = true ∧ v.getLsbD (8 + c.val) = false) ∧
       e.enable = s.events.enable ∧ e.route = s.events.route ∧ e.wakeEnable = s.events.wakeEnable)) ∧
  (∀ (s : State) (d : Dom) (c : Chan) (v : Word), s.reachesChannel d c →
    exec (.registerWrite d .word (BitVec.ofNat 12 (0x410 + 0x80 * c.val)) v) s = .next (s.modCh c fun ch =>
      { ch with
        answerTimeout := v.extractLsb' 0 12, autoAsk := v.getLsbD 12, readyTimeout := v.extractLsb' 16 16 })) ∧
  ∀ (s : State) (v : Word), s.reachesHub 0 →
    let written : Nat → State → Prop := fun off t => exec (.registerWrite 0 .word (BitVec.ofNat 12 off) v) s = .next t
    written 0x00C { s with tickDivider := v.extractLsb' 0 12 } ∧
    written 0x010 { s with memTimeout := v.extractLsb' 0 10 } ∧
    (∀ t : Fin 3,
      let set : Window → State := fun w => { s with windows := s.windows.set t.val w }
      written (0x100 + 0x10 * t.val) (set { s.windows[t] with hostBase := v.extractLsb' 0 20 }) ∧
      written (0x104 + 0x10 * t.val) (set { s.windows[t] with hostSize := v.extractLsb' 0 16 }) ∧
      written (0x108 + 0x10 * t.val) (set { s.windows[t] with stageBase := v.extractLsb' 0 7 }) ∧
      written (0x10C + 0x10 * t.val)
        (if v.toNat ≤ 128 then set { s.windows[t] with stageSize := v.extractLsb' 0 8 } else s)) ∧
    written 0x20C { s with events := { s.events with enable := v.extractLsb' 0 16 } } ∧
    written 0x210 { s with events := { s.events with route := v } } ∧
    written 0x214 { s with events := { s.events with wakeEnable := v.extractLsb' 0 16 } } ∧
    (∀ k : Fin 8,
      let set : ScreenEntry → State := fun e => { s with screen := s.screen.set k.val e }
      written (0x300 + 0x10 * k.val) (set { s.screen[k] with
        valid := v.getLsbD 31, action := v.extractLsb' 8 2, channels := v.extractLsb' 0 8 }) ∧
      written (0x304 + 0x10 * k.val) (set { s.screen[k] with value := v }) ∧
      written (0x308 + 0x10 * k.val) (set { s.screen[k] with care := v })) ∧
    written 0x3C4 { s with direct := { s.direct with wordOut := v } } ∧
    (∀ off : Offset,
      (match regAt off with
        | none => True
        | some r => match r with
          | .id | .hubStatus | .trapSlot _ | .evcRaw | .evcPending | .evcIdentAlert | .evcIdentNotice | .lastHit
          | .dirStatus | .dirWordIn | .ch _ .status | .ch _ .postStatus | .ch _ .progress | .ch _ .current
          | .log _ .count | .log _ (.head _) => True
          | _ => False) →
      exec (.registerWrite 0 .word off v) s = .next s) ∧
    (∀ size off, size ≠ .word ∨ off.toNat % 4 ≠ 0 → ∀ d, exec (.registerWrite d size off v) s = .next s)

/-- R159, R164, R165, R167 to R169, R180: the sixteen sources and what they drive. EVC_RAW and EVC_PENDING read the sources;
a line is asserted exactly while some pending and enabled source is routed to it, and its identify register then names
the lowest such source with VALID, and otherwise reads 0; WAKE follows the pending wake-enabled sources alone, and the QUIET output is asserted exactly while the hub is
QUIESCED. -/
def Obligations.LinesFollowTheirSources : Prop :=
  ∀ s : State,
    let raw := s.readReg .evcRaw
    let drives : BitVec 2 → Nat → Prop := fun line n =>
      raw.getLsbD n = true ∧ s.events.enable.getLsbD n = true ∧ s.events.route.extractLsb' (2 * n) 2 = line
    (s.readReg .evcPending = raw ∧ raw.extractLsb' 16 16 = 0 ∧
      (raw.getLsbD 0 = true ↔ s.trap ≠ none) ∧ (raw.getLsbD 1 = true ↔ s.hubState = .quiesced) ∧
      (raw.getLsbD 2 = s.events.screen) ∧ (raw.getLsbD 3 = s.events.direct) ∧
      (∀ d : Dom, raw.getLsbD (4 + d.val) = true ↔
        (s.log d).threshold ≠ 0 ∧ (s.log d).threshold.toNat ≤ (s.log d).records.length) ∧
      ∀ c : Chan, raw.getLsbD (8 + c.val) = s.events.channels[c]) ∧
    (∀ x ∈ [((1 : BitVec 2), s.alert, Reg.evcIdentAlert), (2, s.notice, .evcIdentNotice)],
      (x.2.1 = true ↔ ∃ n < 16, drives x.1 n) ∧
      (x.2.1 = false → s.readReg x.2.2 = 0) ∧
      ∀ n < 16, drives x.1 n → (∀ m < n, ¬ drives x.1 m) → s.readReg x.2.2 = 0x80000000 ||| BitVec.ofNat 32 n) ∧
    (s.wake = true ↔ ∃ n < 16, raw.getLsbD n = true ∧ s.events.wakeEnable.getLsbD n = true) ∧
    (s.quiet = true ↔ s.hubState = .quiesced)

/-- R186: ID reads 0x01801008 in every state, to every domain, and its fields are those of the part; a write to it by
any domain is ignored, with no trap. -/
def Obligations.IdReadsTheSameAlways : Prop :=
  ∀ (s : State) (d : Dom) (size : Size) (v : Word),
    let id := s.readWindow d .word 0
    id = 0x01801008 ∧ (id.extractLsb' 0 8).toNat = 8 ∧ (id.extractLsb' 8 8).toNat = 16 ∧
    (id.extractLsb' 16 8).toNat = 128 ∧ (id.extractLsb' 24 8).toNat = 1 ∧
    exec (.registerWrite d size 0 v) s = .next s

/-- R184, R185, section 12.2: every register lies at its own offset, a multiple of 4, and the map gives it back from
there; an offset at which the map gives a register is that register's. -/
def Obligations.RegisterMapRoundTrips : Prop :=
  (∀ r : Reg, regAt r.offset = some r ∧ r.offset.toNat = r.offsetNat ∧ r.offsetNat % 4 = 0) ∧
  (∀ (off : Offset) (r : Reg), regAt off = some r → r.offset = off)

/-! ### Resets -/

/-- R171, R174, R175, R183 and section 11.8: what the resets leave. POWER_ON_RESET gives every item its power-on value
but the store's words, which initialisation clears later, and the partners' and the supply's levels; every register
then reads as the table of section 11.8 has it. RESET_RELEASE starts the timebase. INITIALISATION_END pulses
CLEAR on every port, clears every stray-answer flag and makes the hub OPERATIONAL, or QUIESCING with SUPPLY_WARN asserted; in
any other state nothing ends (log entry 3). The store's words, which R130 and R174 clear one by one while INITIALISING, are
left by POWER_ON_RESET and cleared in one step by INITIALISATION_END: the model's choice, log entry 8. -/
def Obligations.ResetsLeaveTheirValues : Prop :=
  ∀ s : State,
    (let t : State :=
      { State.reset with
        resetAsserted := true, supplyWarn := s.supplyWarn, store := s.store, pending := s.pending, outputs := s.outputs,
        ports := s.ports.map fun p => { Port.reset with ready := p.ready, hail := p.hail } }
    exec .powerOnReset s = .next t ∧
    ∀ r : Reg, (match r with
      | .ch _ .port => t.readReg r &&& 0xFFFCFFFF
      | _ => t.readReg r) = (match r with
      | .id => 0x01801008
      | .hubStatus => if s.supplyWarn then 16 else 0
      | .tickDivider => 50
      | .memTimeout => 256
      | .ch _ .config => 0xC35003E8
      | .log _ .threshold => 1
      | _ => 0)) ∧
    exec .resetRelease s = .next { s with resetAsserted := false } ∧
    (s.hubState = .initialising → s.resetAsserted = false → exec .initialisationEnd s = .next (State.settle
      { s with
        store := [], hubState := if s.supplyWarn then .quiescing else .operational,
        ports := s.ports.map fun p => { p with outstanding := none, timer := .stopped, stray := false },
        outputs := s.outputs ++ [.clear 0, .clear 1, .clear 2, .clear 3, .clear 4, .clear 5, .clear 6, .clear 7] })) ∧
    (s.hubState ≠ .initialising ∨ s.resetAsserted = true → exec .initialisationEnd s = .next s)

/-! ### Invariants -/

/-- The state that reset leaves meets every invariant that the steps keep: the store's canonical form, the answer
timers, the bounds, the consistency of the logs, and that nothing is left undone. -/
def Obligations.ResetMeetsEveryInvariant : Prop :=
  State.reset.storeCanonical ∧ State.reset.timersFollowLinks ∧ State.reset.withinBounds ∧ State.reset.logsConsistent ∧
    State.reset.caughtUp

/-- R5, R6, R8, R10, R31, R91, R99 and the form of the store: every step keeps the store canonical, keeps each answer
timer stopped exactly while its port is in LINK_IDLE, and keeps queues, logs and thresholds within their bounds; each
of the three by itself, from any state. -/
def Obligations.StepsKeepStoreTimersAndBounds : Prop :=
  ∀ s t : State, step s = .next t →
    (s.storeCanonical → t.storeCanonical) ∧ (s.timersFollowLinks → t.timersFollowLinks) ∧
    (s.withinBounds → t.withinBounds)

/-- R36, R62, R92 to R96, R98: every step keeps the logs, the held records and the waiting lists consistent: a channel
is in LOGGING exactly while it holds a record, it then waits, once, on the log of its own domain, which is full, and
no pending flush count outlasts a return to IDLE or HALTED. -/
def Obligations.StepsKeepTheLogsConsistent : Prop :=
  ∀ s t : State, s.withinBounds → s.logsConsistent → step s = .next t → t.logsConsistent

/-- R120, R125, R128, R132, R155, R180: no step leaves undone what comes about as soon as its condition holds. A
pending detach waits only for a channel that is neither IDLE nor HALTED, and a pending domain change only for one that
is not empty; no request waits at a free store; a request is presented if a slot is REQUESTED, and only such a one;
and a QUIESCING hub is not at rest. -/
def Obligations.StepsLeaveNothingUndone : Prop :=
  ∀ s t : State, s.caughtUp → step s = .next t → t.caughtUp

/-! ### The whole machine -/

/-- R42, R91, R107, R116, R129, R134, R181: what only the named commands undo. An armed flag is cleared only by STOP,
RESET_CHANNEL and the two resets; QUIESCED is left only by RESUME_ALL and the resets; a log loses records only to
LOG_POP and the resets; the violation that the trap slot holds is dropped only by GRD_TRAP_ACK and the resets; windows
change only by domain 0's register writes and the resets; and the store's words only by a completed access, a failure
of the storage and the end of initialisation. That the store is left by POWER_ON_RESET and cleared in the one step of
INITIALISATION_END, where R130 and R174 clear it word by word while INITIALISING, is the model's choice, log entry 8. -/
def Obligations.OnlyNamedCommandsUndo : Prop :=
  ∀ (s t : State) (i : Instr), s.fits i → exec i s = .next t →
    let reset := i = .hubReset 0 ∨ i = .powerOnReset
    (∀ c, (s.ch c).armed = true → (t.ch c).armed = false →
      (∃ d, i = .stop d c) ∨ (∃ d, i = .resetChannel d c) ∨ reset) ∧
    (s.hubState = .quiesced → t.hubState ≠ .quiesced → i = .resumeAll 0 ∨ reset) ∧
    (∀ l, ¬ (s.log l).records <+: (t.log l).records → (∃ d, i = .logPop d l) ∨ reset) ∧
    (∀ x, s.trap = some x → t.trap ≠ some x → i = .grdTrapAck 0 ∨ reset) ∧
    (t.windows ≠ s.windows → (∃ off v, i = .registerWrite 0 .word off v) ∨ reset) ∧
    (t.store ≠ s.store → i = .storeAccessDone ∨ (∃ w v, i = .storageFailure w v) ∨ i = .initialisationEnd)

/-- R103, R104, R120: a host access of a tenant domain leaves alone every channel that another domain owns, with its
port, its memory-port slot and its place at the staging arbiter, the log of every other domain, the windows, the
screen and the store, in any state in which no step is left undone and the logs are consistent. -/
def Obligations.TenantsReachOnlyTheirOwn : Prop :=
  ∀ (s t : State) (i : Instr) (d : Dom), s.caughtUp → s.logsConsistent → senderOf i = some d → d ≠ 0 →
    exec i s = .next t →
    (∀ c, (s.ch c).domain ≠ d →
      t.ch c = s.ch c ∧ t.port c = s.port c ∧ t.mem c = s.mem c ∧ t.storeReq c = s.storeReq c) ∧
    (∀ l, l ≠ d → t.log l = s.log l) ∧ t.windows = s.windows ∧ t.screen = s.screen ∧ t.store = s.store

end
end

