-- ==== Sys2Proof/Laws/Fields.lean ====
section
/-! SUPPORT. Fields of a word that is put together by appending: each lies in the part that holds it. -/

namespace Sys2Proof.Machine

/-- A field in the part below. -/
theorem append_extract_low {a b : Nat} (hi : BitVec a) (lo : BitVec b) (start len : Nat) (h : start + len ≤ b) :
    (hi ++ lo).extractLsb' start len = lo.extractLsb' start len := by
  apply BitVec.eq_of_getLsbD_eq
  intro i hi'
  simp only [BitVec.getLsbD_extractLsb', BitVec.getLsbD_append]
  rw [if_pos (by omega)]

/-- A field in the part above. -/
theorem append_extract_high {a b : Nat} (hi : BitVec a) (lo : BitVec b) (start len : Nat) (h : b ≤ start) :
    (hi ++ lo).extractLsb' start len = hi.extractLsb' (start - b) len := by
  apply BitVec.eq_of_getLsbD_eq
  intro i hi'
  simp only [BitVec.getLsbD_extractLsb', BitVec.getLsbD_append]
  rw [if_neg (by omega)]
  congr 2; omega

/-- A bit in the part below. -/
theorem append_getLsbD_low {a b : Nat} (hi : BitVec a) (lo : BitVec b) (i : Nat) (h : i < b) :
    (hi ++ lo).getLsbD i = lo.getLsbD i := by rw [BitVec.getLsbD_append, if_pos h]

/-- A bit in the part above. -/
theorem append_getLsbD_high {a b : Nat} (hi : BitVec a) (lo : BitVec b) (i : Nat) (h : b ≤ i) :
    (hi ++ lo).getLsbD i = hi.getLsbD (i - b) := by rw [BitVec.getLsbD_append, if_neg (by omega)]

end Sys2Proof.Machine
end

