-- ==== Sys2Proof/Laws/State.lean ====
section
/-! SUPPORT. The small lemmas of the state's updates: what each leaves in each field, and what a read of a channel, port,
slot, request or log sees after it. -/

namespace Sys2Proof.Machine

variable (s : State)

/-! ### Run and flag updates are channel updates -/

@[simp] theorem State.modRun_eq (c : Chan) (f : Run → Run) :
    s.modRun c f = s.modCh c fun ch => { ch with run := f ch.run } := rfl

@[simp] theorem State.modFlags_eq (c : Chan) (f : Flags → Flags) :
    s.modFlags c f = s.modCh c fun ch => { ch with run := { ch.run with flags := f ch.run.flags } } := rfl

/-! ### A part after its own update -/

@[simp] theorem State.ch_modCh_same (c : Chan) (f : Channel → Channel) : (s.modCh c f).ch c = f (s.ch c) := by
  simp [State.ch, State.modCh]

theorem State.ch_modCh_ne (f : Channel → Channel) {c c' : Chan} (h : c' ≠ c) : (s.modCh c f).ch c' = s.ch c' := by
  have : c.val ≠ c'.val := fun e => h (Fin.ext e.symm)
  simp [State.ch, State.modCh, Vector.getElem_set_ne, this]

@[simp] theorem State.port_modPort_same (c : Chan) (f : Port → Port) : (s.modPort c f).port c = f (s.port c) := by
  simp [State.port, State.modPort]

theorem State.port_modPort_ne (f : Port → Port) {c c' : Chan} (h : c' ≠ c) :
    (s.modPort c f).port c' = s.port c' := by
  have : c.val ≠ c'.val := fun e => h (Fin.ext e.symm)
  simp [State.port, State.modPort, Vector.getElem_set_ne, this]

@[simp] theorem State.mem_modMem_same (c : Chan) (f : MemSlot → MemSlot) : (s.modMem c f).mem c = f (s.mem c) := by
  simp [State.mem, State.modMem]

theorem State.mem_modMem_ne (f : MemSlot → MemSlot) {c c' : Chan} (h : c' ≠ c) :
    (s.modMem c f).mem c' = s.mem c' := by
  have : c.val ≠ c'.val := fun e => h (Fin.ext e.symm)
  simp [State.mem, State.modMem, Vector.getElem_set_ne, this]

@[simp] theorem State.storeReq_setStoreReq_same (c : Chan) (r : Option Access) :
    (s.setStoreReq c r).storeReq c = r := by
  simp [State.storeReq, State.setStoreReq]

theorem State.storeReq_setStoreReq_ne (r : Option Access) {c c' : Chan} (h : c' ≠ c) :
    (s.setStoreReq c r).storeReq c' = s.storeReq c' := by
  have : c.val ≠ c'.val := fun e => h (Fin.ext e.symm)
  simp [State.storeReq, State.setStoreReq, Vector.getElem_set_ne, this]

@[simp] theorem State.log_modLog_same (d : Dom) (f : Log → Log) : (s.modLog d f).log d = f (s.log d) := by
  simp [State.log, State.modLog]

theorem State.log_modLog_ne (f : Log → Log) {d d' : Dom} (h : d' ≠ d) : (s.modLog d f).log d' = s.log d' := by
  have : d.val ≠ d'.val := fun e => h (Fin.ext e.symm)
  simp [State.log, State.modLog, Vector.getElem_set_ne, this]

@[simp] theorem State.outputs_emit (o : Output) : (s.emit o).outputs = s.outputs ++ [o] := rfl

/-- Two updates of one channel are one. -/
@[simp] theorem State.modCh_modCh (c : Chan) (f g : Channel → Channel) :
    (s.modCh c f).modCh c g = s.modCh c fun ch => g (f ch) := by
  simp [State.modCh]

/-! ### State.modCh -/

@[simp] theorem State.hubState_modCh (c : Chan) (f : Channel → Channel) : (s.modCh c f).hubState = s.hubState := rfl
@[simp] theorem State.hubLastCmd_modCh (c : Chan) (f : Channel → Channel) : (s.modCh c f).hubLastCmd = s.hubLastCmd := rfl
@[simp] theorem State.resetAsserted_modCh (c : Chan) (f : Channel → Channel) : (s.modCh c f).resetAsserted = s.resetAsserted := rfl
@[simp] theorem State.supplyWarn_modCh (c : Chan) (f : Channel → Channel) : (s.modCh c f).supplyWarn = s.supplyWarn := rfl
@[simp] theorem State.tickDivider_modCh (c : Chan) (f : Channel → Channel) : (s.modCh c f).tickDivider = s.tickDivider := rfl
@[simp] theorem State.tickPeriod_modCh (c : Chan) (f : Channel → Channel) : (s.modCh c f).tickPeriod = s.tickPeriod := rfl
@[simp] theorem State.memTimeout_modCh (c : Chan) (f : Channel → Channel) : (s.modCh c f).memTimeout = s.memTimeout := rfl
@[simp] theorem State.slots_modCh (c : Chan) (f : Channel → Channel) : (s.modCh c f).slots = s.slots := rfl
@[simp] theorem State.servicePointer_modCh (c : Chan) (f : Channel → Channel) : (s.modCh c f).servicePointer = s.servicePointer := rfl
@[simp] theorem State.presented_modCh (c : Chan) (f : Channel → Channel) : (s.modCh c f).presented = s.presented := rfl
@[simp] theorem State.store_modCh (c : Chan) (f : Channel → Channel) : (s.modCh c f).store = s.store := rfl
@[simp] theorem State.storeRequests_modCh (c : Chan) (f : Channel → Channel) : (s.modCh c f).storeRequests = s.storeRequests := rfl
@[simp] theorem State.hostWaiting_modCh (c : Chan) (f : Channel → Channel) : (s.modCh c f).hostWaiting = s.hostWaiting := rfl
@[simp] theorem State.granted_modCh (c : Chan) (f : Channel → Channel) : (s.modCh c f).granted = s.granted := rfl
@[simp] theorem State.lastGranted_modCh (c : Chan) (f : Channel → Channel) : (s.modCh c f).lastGranted = s.lastGranted := rfl
@[simp] theorem State.hostRun_modCh (c : Chan) (f : Channel → Channel) : (s.modCh c f).hostRun = s.hostRun := rfl
@[simp] theorem State.windows_modCh (c : Chan) (f : Channel → Channel) : (s.modCh c f).windows = s.windows := rfl
@[simp] theorem State.trap_modCh (c : Chan) (f : Channel → Channel) : (s.modCh c f).trap = s.trap := rfl
@[simp] theorem State.lost_modCh (c : Chan) (f : Channel → Channel) : (s.modCh c f).lost = s.lost := rfl
@[simp] theorem State.ports_modCh (c : Chan) (f : Channel → Channel) : (s.modCh c f).ports = s.ports := rfl
@[simp] theorem State.logs_modCh (c : Chan) (f : Channel → Channel) : (s.modCh c f).logs = s.logs := rfl
@[simp] theorem State.screen_modCh (c : Chan) (f : Channel → Channel) : (s.modCh c f).screen = s.screen := rfl
@[simp] theorem State.lastHit_modCh (c : Chan) (f : Channel → Channel) : (s.modCh c f).lastHit = s.lastHit := rfl
@[simp] theorem State.direct_modCh (c : Chan) (f : Channel → Channel) : (s.modCh c f).direct = s.direct := rfl
@[simp] theorem State.events_modCh (c : Chan) (f : Channel → Channel) : (s.modCh c f).events = s.events := rfl
@[simp] theorem State.pending_modCh (c : Chan) (f : Channel → Channel) : (s.modCh c f).pending = s.pending := rfl
@[simp] theorem State.outputs_modCh (c : Chan) (f : Channel → Channel) : (s.modCh c f).outputs = s.outputs := rfl
@[simp] theorem State.port_modCh (c : Chan) (f : Channel → Channel) (x : Chan) : (s.modCh c f).port x = s.port x := rfl
@[simp] theorem State.mem_modCh (c : Chan) (f : Channel → Channel) (x : Chan) : (s.modCh c f).mem x = s.mem x := rfl
@[simp] theorem State.storeReq_modCh (c : Chan) (f : Channel → Channel) (x : Chan) : (s.modCh c f).storeReq x = s.storeReq x := rfl
@[simp] theorem State.log_modCh (c : Chan) (f : Channel → Channel) (x : Dom) : (s.modCh c f).log x = s.log x := rfl

/-! ### State.modPort -/

@[simp] theorem State.hubState_modPort (c : Chan) (f : Port → Port) : (s.modPort c f).hubState = s.hubState := rfl
@[simp] theorem State.hubLastCmd_modPort (c : Chan) (f : Port → Port) : (s.modPort c f).hubLastCmd = s.hubLastCmd := rfl
@[simp] theorem State.resetAsserted_modPort (c : Chan) (f : Port → Port) : (s.modPort c f).resetAsserted = s.resetAsserted := rfl
@[simp] theorem State.supplyWarn_modPort (c : Chan) (f : Port → Port) : (s.modPort c f).supplyWarn = s.supplyWarn := rfl
@[simp] theorem State.tickDivider_modPort (c : Chan) (f : Port → Port) : (s.modPort c f).tickDivider = s.tickDivider := rfl
@[simp] theorem State.tickPeriod_modPort (c : Chan) (f : Port → Port) : (s.modPort c f).tickPeriod = s.tickPeriod := rfl
@[simp] theorem State.memTimeout_modPort (c : Chan) (f : Port → Port) : (s.modPort c f).memTimeout = s.memTimeout := rfl
@[simp] theorem State.slots_modPort (c : Chan) (f : Port → Port) : (s.modPort c f).slots = s.slots := rfl
@[simp] theorem State.servicePointer_modPort (c : Chan) (f : Port → Port) : (s.modPort c f).servicePointer = s.servicePointer := rfl
@[simp] theorem State.presented_modPort (c : Chan) (f : Port → Port) : (s.modPort c f).presented = s.presented := rfl
@[simp] theorem State.store_modPort (c : Chan) (f : Port → Port) : (s.modPort c f).store = s.store := rfl
@[simp] theorem State.storeRequests_modPort (c : Chan) (f : Port → Port) : (s.modPort c f).storeRequests = s.storeRequests := rfl
@[simp] theorem State.hostWaiting_modPort (c : Chan) (f : Port → Port) : (s.modPort c f).hostWaiting = s.hostWaiting := rfl
@[simp] theorem State.granted_modPort (c : Chan) (f : Port → Port) : (s.modPort c f).granted = s.granted := rfl
@[simp] theorem State.lastGranted_modPort (c : Chan) (f : Port → Port) : (s.modPort c f).lastGranted = s.lastGranted := rfl
@[simp] theorem State.hostRun_modPort (c : Chan) (f : Port → Port) : (s.modPort c f).hostRun = s.hostRun := rfl
@[simp] theorem State.windows_modPort (c : Chan) (f : Port → Port) : (s.modPort c f).windows = s.windows := rfl
@[simp] theorem State.trap_modPort (c : Chan) (f : Port → Port) : (s.modPort c f).trap = s.trap := rfl
@[simp] theorem State.lost_modPort (c : Chan) (f : Port → Port) : (s.modPort c f).lost = s.lost := rfl
@[simp] theorem State.channels_modPort (c : Chan) (f : Port → Port) : (s.modPort c f).channels = s.channels := rfl
@[simp] theorem State.logs_modPort (c : Chan) (f : Port → Port) : (s.modPort c f).logs = s.logs := rfl
@[simp] theorem State.screen_modPort (c : Chan) (f : Port → Port) : (s.modPort c f).screen = s.screen := rfl
@[simp] theorem State.lastHit_modPort (c : Chan) (f : Port → Port) : (s.modPort c f).lastHit = s.lastHit := rfl
@[simp] theorem State.direct_modPort (c : Chan) (f : Port → Port) : (s.modPort c f).direct = s.direct := rfl
@[simp] theorem State.events_modPort (c : Chan) (f : Port → Port) : (s.modPort c f).events = s.events := rfl
@[simp] theorem State.pending_modPort (c : Chan) (f : Port → Port) : (s.modPort c f).pending = s.pending := rfl
@[simp] theorem State.outputs_modPort (c : Chan) (f : Port → Port) : (s.modPort c f).outputs = s.outputs := rfl
@[simp] theorem State.ch_modPort (c : Chan) (f : Port → Port) (x : Chan) : (s.modPort c f).ch x = s.ch x := rfl
@[simp] theorem State.mem_modPort (c : Chan) (f : Port → Port) (x : Chan) : (s.modPort c f).mem x = s.mem x := rfl
@[simp] theorem State.storeReq_modPort (c : Chan) (f : Port → Port) (x : Chan) : (s.modPort c f).storeReq x = s.storeReq x := rfl
@[simp] theorem State.log_modPort (c : Chan) (f : Port → Port) (x : Dom) : (s.modPort c f).log x = s.log x := rfl

/-! ### State.modMem -/

@[simp] theorem State.hubState_modMem (c : Chan) (f : MemSlot → MemSlot) : (s.modMem c f).hubState = s.hubState := rfl
@[simp] theorem State.hubLastCmd_modMem (c : Chan) (f : MemSlot → MemSlot) : (s.modMem c f).hubLastCmd = s.hubLastCmd := rfl
@[simp] theorem State.resetAsserted_modMem (c : Chan) (f : MemSlot → MemSlot) : (s.modMem c f).resetAsserted = s.resetAsserted := rfl
@[simp] theorem State.supplyWarn_modMem (c : Chan) (f : MemSlot → MemSlot) : (s.modMem c f).supplyWarn = s.supplyWarn := rfl
@[simp] theorem State.tickDivider_modMem (c : Chan) (f : MemSlot → MemSlot) : (s.modMem c f).tickDivider = s.tickDivider := rfl
@[simp] theorem State.tickPeriod_modMem (c : Chan) (f : MemSlot → MemSlot) : (s.modMem c f).tickPeriod = s.tickPeriod := rfl
@[simp] theorem State.memTimeout_modMem (c : Chan) (f : MemSlot → MemSlot) : (s.modMem c f).memTimeout = s.memTimeout := rfl
@[simp] theorem State.servicePointer_modMem (c : Chan) (f : MemSlot → MemSlot) : (s.modMem c f).servicePointer = s.servicePointer := rfl
@[simp] theorem State.presented_modMem (c : Chan) (f : MemSlot → MemSlot) : (s.modMem c f).presented = s.presented := rfl
@[simp] theorem State.store_modMem (c : Chan) (f : MemSlot → MemSlot) : (s.modMem c f).store = s.store := rfl
@[simp] theorem State.storeRequests_modMem (c : Chan) (f : MemSlot → MemSlot) : (s.modMem c f).storeRequests = s.storeRequests := rfl
@[simp] theorem State.hostWaiting_modMem (c : Chan) (f : MemSlot → MemSlot) : (s.modMem c f).hostWaiting = s.hostWaiting := rfl
@[simp] theorem State.granted_modMem (c : Chan) (f : MemSlot → MemSlot) : (s.modMem c f).granted = s.granted := rfl
@[simp] theorem State.lastGranted_modMem (c : Chan) (f : MemSlot → MemSlot) : (s.modMem c f).lastGranted = s.lastGranted := rfl
@[simp] theorem State.hostRun_modMem (c : Chan) (f : MemSlot → MemSlot) : (s.modMem c f).hostRun = s.hostRun := rfl
@[simp] theorem State.windows_modMem (c : Chan) (f : MemSlot → MemSlot) : (s.modMem c f).windows = s.windows := rfl
@[simp] theorem State.trap_modMem (c : Chan) (f : MemSlot → MemSlot) : (s.modMem c f).trap = s.trap := rfl
@[simp] theorem State.lost_modMem (c : Chan) (f : MemSlot → MemSlot) : (s.modMem c f).lost = s.lost := rfl
@[simp] theorem State.channels_modMem (c : Chan) (f : MemSlot → MemSlot) : (s.modMem c f).channels = s.channels := rfl
@[simp] theorem State.ports_modMem (c : Chan) (f : MemSlot → MemSlot) : (s.modMem c f).ports = s.ports := rfl
@[simp] theorem State.logs_modMem (c : Chan) (f : MemSlot → MemSlot) : (s.modMem c f).logs = s.logs := rfl
@[simp] theorem State.screen_modMem (c : Chan) (f : MemSlot → MemSlot) : (s.modMem c f).screen = s.screen := rfl
@[simp] theorem State.lastHit_modMem (c : Chan) (f : MemSlot → MemSlot) : (s.modMem c f).lastHit = s.lastHit := rfl
@[simp] theorem State.direct_modMem (c : Chan) (f : MemSlot → MemSlot) : (s.modMem c f).direct = s.direct := rfl
@[simp] theorem State.events_modMem (c : Chan) (f : MemSlot → MemSlot) : (s.modMem c f).events = s.events := rfl
@[simp] theorem State.pending_modMem (c : Chan) (f : MemSlot → MemSlot) : (s.modMem c f).pending = s.pending := rfl
@[simp] theorem State.outputs_modMem (c : Chan) (f : MemSlot → MemSlot) : (s.modMem c f).outputs = s.outputs := rfl
@[simp] theorem State.ch_modMem (c : Chan) (f : MemSlot → MemSlot) (x : Chan) : (s.modMem c f).ch x = s.ch x := rfl
@[simp] theorem State.port_modMem (c : Chan) (f : MemSlot → MemSlot) (x : Chan) : (s.modMem c f).port x = s.port x := rfl
@[simp] theorem State.storeReq_modMem (c : Chan) (f : MemSlot → MemSlot) (x : Chan) : (s.modMem c f).storeReq x = s.storeReq x := rfl
@[simp] theorem State.log_modMem (c : Chan) (f : MemSlot → MemSlot) (x : Dom) : (s.modMem c f).log x = s.log x := rfl

/-! ### State.setStoreReq -/

@[simp] theorem State.hubState_setStoreReq (c : Chan) (r : Option Access) : (s.setStoreReq c r).hubState = s.hubState := rfl
@[simp] theorem State.hubLastCmd_setStoreReq (c : Chan) (r : Option Access) : (s.setStoreReq c r).hubLastCmd = s.hubLastCmd := rfl
@[simp] theorem State.resetAsserted_setStoreReq (c : Chan) (r : Option Access) : (s.setStoreReq c r).resetAsserted = s.resetAsserted := rfl
@[simp] theorem State.supplyWarn_setStoreReq (c : Chan) (r : Option Access) : (s.setStoreReq c r).supplyWarn = s.supplyWarn := rfl
@[simp] theorem State.tickDivider_setStoreReq (c : Chan) (r : Option Access) : (s.setStoreReq c r).tickDivider = s.tickDivider := rfl
@[simp] theorem State.tickPeriod_setStoreReq (c : Chan) (r : Option Access) : (s.setStoreReq c r).tickPeriod = s.tickPeriod := rfl
@[simp] theorem State.memTimeout_setStoreReq (c : Chan) (r : Option Access) : (s.setStoreReq c r).memTimeout = s.memTimeout := rfl
@[simp] theorem State.slots_setStoreReq (c : Chan) (r : Option Access) : (s.setStoreReq c r).slots = s.slots := rfl
@[simp] theorem State.servicePointer_setStoreReq (c : Chan) (r : Option Access) : (s.setStoreReq c r).servicePointer = s.servicePointer := rfl
@[simp] theorem State.presented_setStoreReq (c : Chan) (r : Option Access) : (s.setStoreReq c r).presented = s.presented := rfl
@[simp] theorem State.store_setStoreReq (c : Chan) (r : Option Access) : (s.setStoreReq c r).store = s.store := rfl
@[simp] theorem State.hostWaiting_setStoreReq (c : Chan) (r : Option Access) : (s.setStoreReq c r).hostWaiting = s.hostWaiting := rfl
@[simp] theorem State.granted_setStoreReq (c : Chan) (r : Option Access) : (s.setStoreReq c r).granted = s.granted := rfl
@[simp] theorem State.lastGranted_setStoreReq (c : Chan) (r : Option Access) : (s.setStoreReq c r).lastGranted = s.lastGranted := rfl
@[simp] theorem State.hostRun_setStoreReq (c : Chan) (r : Option Access) : (s.setStoreReq c r).hostRun = s.hostRun := rfl
@[simp] theorem State.windows_setStoreReq (c : Chan) (r : Option Access) : (s.setStoreReq c r).windows = s.windows := rfl
@[simp] theorem State.trap_setStoreReq (c : Chan) (r : Option Access) : (s.setStoreReq c r).trap = s.trap := rfl
@[simp] theorem State.lost_setStoreReq (c : Chan) (r : Option Access) : (s.setStoreReq c r).lost = s.lost := rfl
@[simp] theorem State.channels_setStoreReq (c : Chan) (r : Option Access) : (s.setStoreReq c r).channels = s.channels := rfl
@[simp] theorem State.ports_setStoreReq (c : Chan) (r : Option Access) : (s.setStoreReq c r).ports = s.ports := rfl
@[simp] theorem State.logs_setStoreReq (c : Chan) (r : Option Access) : (s.setStoreReq c r).logs = s.logs := rfl
@[simp] theorem State.screen_setStoreReq (c : Chan) (r : Option Access) : (s.setStoreReq c r).screen = s.screen := rfl
@[simp] theorem State.lastHit_setStoreReq (c : Chan) (r : Option Access) : (s.setStoreReq c r).lastHit = s.lastHit := rfl
@[simp] theorem State.direct_setStoreReq (c : Chan) (r : Option Access) : (s.setStoreReq c r).direct = s.direct := rfl
@[simp] theorem State.events_setStoreReq (c : Chan) (r : Option Access) : (s.setStoreReq c r).events = s.events := rfl
@[simp] theorem State.pending_setStoreReq (c : Chan) (r : Option Access) : (s.setStoreReq c r).pending = s.pending := rfl
@[simp] theorem State.outputs_setStoreReq (c : Chan) (r : Option Access) : (s.setStoreReq c r).outputs = s.outputs := rfl
@[simp] theorem State.ch_setStoreReq (c : Chan) (r : Option Access) (x : Chan) : (s.setStoreReq c r).ch x = s.ch x := rfl
@[simp] theorem State.port_setStoreReq (c : Chan) (r : Option Access) (x : Chan) : (s.setStoreReq c r).port x = s.port x := rfl
@[simp] theorem State.mem_setStoreReq (c : Chan) (r : Option Access) (x : Chan) : (s.setStoreReq c r).mem x = s.mem x := rfl
@[simp] theorem State.log_setStoreReq (c : Chan) (r : Option Access) (x : Dom) : (s.setStoreReq c r).log x = s.log x := rfl

/-! ### State.modLog -/

@[simp] theorem State.hubState_modLog (d : Dom) (f : Log → Log) : (s.modLog d f).hubState = s.hubState := rfl
@[simp] theorem State.hubLastCmd_modLog (d : Dom) (f : Log → Log) : (s.modLog d f).hubLastCmd = s.hubLastCmd := rfl
@[simp] theorem State.resetAsserted_modLog (d : Dom) (f : Log → Log) : (s.modLog d f).resetAsserted = s.resetAsserted := rfl
@[simp] theorem State.supplyWarn_modLog (d : Dom) (f : Log → Log) : (s.modLog d f).supplyWarn = s.supplyWarn := rfl
@[simp] theorem State.tickDivider_modLog (d : Dom) (f : Log → Log) : (s.modLog d f).tickDivider = s.tickDivider := rfl
@[simp] theorem State.tickPeriod_modLog (d : Dom) (f : Log → Log) : (s.modLog d f).tickPeriod = s.tickPeriod := rfl
@[simp] theorem State.memTimeout_modLog (d : Dom) (f : Log → Log) : (s.modLog d f).memTimeout = s.memTimeout := rfl
@[simp] theorem State.slots_modLog (d : Dom) (f : Log → Log) : (s.modLog d f).slots = s.slots := rfl
@[simp] theorem State.servicePointer_modLog (d : Dom) (f : Log → Log) : (s.modLog d f).servicePointer = s.servicePointer := rfl
@[simp] theorem State.presented_modLog (d : Dom) (f : Log → Log) : (s.modLog d f).presented = s.presented := rfl
@[simp] theorem State.store_modLog (d : Dom) (f : Log → Log) : (s.modLog d f).store = s.store := rfl
@[simp] theorem State.storeRequests_modLog (d : Dom) (f : Log → Log) : (s.modLog d f).storeRequests = s.storeRequests := rfl
@[simp] theorem State.hostWaiting_modLog (d : Dom) (f : Log → Log) : (s.modLog d f).hostWaiting = s.hostWaiting := rfl
@[simp] theorem State.granted_modLog (d : Dom) (f : Log → Log) : (s.modLog d f).granted = s.granted := rfl
@[simp] theorem State.lastGranted_modLog (d : Dom) (f : Log → Log) : (s.modLog d f).lastGranted = s.lastGranted := rfl
@[simp] theorem State.hostRun_modLog (d : Dom) (f : Log → Log) : (s.modLog d f).hostRun = s.hostRun := rfl
@[simp] theorem State.windows_modLog (d : Dom) (f : Log → Log) : (s.modLog d f).windows = s.windows := rfl
@[simp] theorem State.trap_modLog (d : Dom) (f : Log → Log) : (s.modLog d f).trap = s.trap := rfl
@[simp] theorem State.lost_modLog (d : Dom) (f : Log → Log) : (s.modLog d f).lost = s.lost := rfl
@[simp] theorem State.channels_modLog (d : Dom) (f : Log → Log) : (s.modLog d f).channels = s.channels := rfl
@[simp] theorem State.ports_modLog (d : Dom) (f : Log → Log) : (s.modLog d f).ports = s.ports := rfl
@[simp] theorem State.screen_modLog (d : Dom) (f : Log → Log) : (s.modLog d f).screen = s.screen := rfl
@[simp] theorem State.lastHit_modLog (d : Dom) (f : Log → Log) : (s.modLog d f).lastHit = s.lastHit := rfl
@[simp] theorem State.direct_modLog (d : Dom) (f : Log → Log) : (s.modLog d f).direct = s.direct := rfl
@[simp] theorem State.events_modLog (d : Dom) (f : Log → Log) : (s.modLog d f).events = s.events := rfl
@[simp] theorem State.pending_modLog (d : Dom) (f : Log → Log) : (s.modLog d f).pending = s.pending := rfl
@[simp] theorem State.outputs_modLog (d : Dom) (f : Log → Log) : (s.modLog d f).outputs = s.outputs := rfl
@[simp] theorem State.ch_modLog (d : Dom) (f : Log → Log) (x : Chan) : (s.modLog d f).ch x = s.ch x := rfl
@[simp] theorem State.port_modLog (d : Dom) (f : Log → Log) (x : Chan) : (s.modLog d f).port x = s.port x := rfl
@[simp] theorem State.mem_modLog (d : Dom) (f : Log → Log) (x : Chan) : (s.modLog d f).mem x = s.mem x := rfl
@[simp] theorem State.storeReq_modLog (d : Dom) (f : Log → Log) (x : Chan) : (s.modLog d f).storeReq x = s.storeReq x := rfl

/-! ### State.modWindow -/

@[simp] theorem State.hubState_modWindow (t : Fin 3) (f : Window → Window) : (s.modWindow t f).hubState = s.hubState := rfl
@[simp] theorem State.hubLastCmd_modWindow (t : Fin 3) (f : Window → Window) : (s.modWindow t f).hubLastCmd = s.hubLastCmd := rfl
@[simp] theorem State.resetAsserted_modWindow (t : Fin 3) (f : Window → Window) : (s.modWindow t f).resetAsserted = s.resetAsserted := rfl
@[simp] theorem State.supplyWarn_modWindow (t : Fin 3) (f : Window → Window) : (s.modWindow t f).supplyWarn = s.supplyWarn := rfl
@[simp] theorem State.tickDivider_modWindow (t : Fin 3) (f : Window → Window) : (s.modWindow t f).tickDivider = s.tickDivider := rfl
@[simp] theorem State.tickPeriod_modWindow (t : Fin 3) (f : Window → Window) : (s.modWindow t f).tickPeriod = s.tickPeriod := rfl
@[simp] theorem State.memTimeout_modWindow (t : Fin 3) (f : Window → Window) : (s.modWindow t f).memTimeout = s.memTimeout := rfl
@[simp] theorem State.slots_modWindow (t : Fin 3) (f : Window → Window) : (s.modWindow t f).slots = s.slots := rfl
@[simp] theorem State.servicePointer_modWindow (t : Fin 3) (f : Window → Window) : (s.modWindow t f).servicePointer = s.servicePointer := rfl
@[simp] theorem State.presented_modWindow (t : Fin 3) (f : Window → Window) : (s.modWindow t f).presented = s.presented := rfl
@[simp] theorem State.store_modWindow (t : Fin 3) (f : Window → Window) : (s.modWindow t f).store = s.store := rfl
@[simp] theorem State.storeRequests_modWindow (t : Fin 3) (f : Window → Window) : (s.modWindow t f).storeRequests = s.storeRequests := rfl
@[simp] theorem State.hostWaiting_modWindow (t : Fin 3) (f : Window → Window) : (s.modWindow t f).hostWaiting = s.hostWaiting := rfl
@[simp] theorem State.granted_modWindow (t : Fin 3) (f : Window → Window) : (s.modWindow t f).granted = s.granted := rfl
@[simp] theorem State.lastGranted_modWindow (t : Fin 3) (f : Window → Window) : (s.modWindow t f).lastGranted = s.lastGranted := rfl
@[simp] theorem State.hostRun_modWindow (t : Fin 3) (f : Window → Window) : (s.modWindow t f).hostRun = s.hostRun := rfl
@[simp] theorem State.trap_modWindow (t : Fin 3) (f : Window → Window) : (s.modWindow t f).trap = s.trap := rfl
@[simp] theorem State.lost_modWindow (t : Fin 3) (f : Window → Window) : (s.modWindow t f).lost = s.lost := rfl
@[simp] theorem State.channels_modWindow (t : Fin 3) (f : Window → Window) : (s.modWindow t f).channels = s.channels := rfl
@[simp] theorem State.ports_modWindow (t : Fin 3) (f : Window → Window) : (s.modWindow t f).ports = s.ports := rfl
@[simp] theorem State.logs_modWindow (t : Fin 3) (f : Window → Window) : (s.modWindow t f).logs = s.logs := rfl
@[simp] theorem State.screen_modWindow (t : Fin 3) (f : Window → Window) : (s.modWindow t f).screen = s.screen := rfl
@[simp] theorem State.lastHit_modWindow (t : Fin 3) (f : Window → Window) : (s.modWindow t f).lastHit = s.lastHit := rfl
@[simp] theorem State.direct_modWindow (t : Fin 3) (f : Window → Window) : (s.modWindow t f).direct = s.direct := rfl
@[simp] theorem State.events_modWindow (t : Fin 3) (f : Window → Window) : (s.modWindow t f).events = s.events := rfl
@[simp] theorem State.pending_modWindow (t : Fin 3) (f : Window → Window) : (s.modWindow t f).pending = s.pending := rfl
@[simp] theorem State.outputs_modWindow (t : Fin 3) (f : Window → Window) : (s.modWindow t f).outputs = s.outputs := rfl
@[simp] theorem State.ch_modWindow (t : Fin 3) (f : Window → Window) (x : Chan) : (s.modWindow t f).ch x = s.ch x := rfl
@[simp] theorem State.port_modWindow (t : Fin 3) (f : Window → Window) (x : Chan) : (s.modWindow t f).port x = s.port x := rfl
@[simp] theorem State.mem_modWindow (t : Fin 3) (f : Window → Window) (x : Chan) : (s.modWindow t f).mem x = s.mem x := rfl
@[simp] theorem State.storeReq_modWindow (t : Fin 3) (f : Window → Window) (x : Chan) : (s.modWindow t f).storeReq x = s.storeReq x := rfl
@[simp] theorem State.log_modWindow (t : Fin 3) (f : Window → Window) (x : Dom) : (s.modWindow t f).log x = s.log x := rfl

/-! ### State.emit -/

@[simp] theorem State.hubState_emit (o : Output) : (s.emit o).hubState = s.hubState := rfl
@[simp] theorem State.hubLastCmd_emit (o : Output) : (s.emit o).hubLastCmd = s.hubLastCmd := rfl
@[simp] theorem State.resetAsserted_emit (o : Output) : (s.emit o).resetAsserted = s.resetAsserted := rfl
@[simp] theorem State.supplyWarn_emit (o : Output) : (s.emit o).supplyWarn = s.supplyWarn := rfl
@[simp] theorem State.tickDivider_emit (o : Output) : (s.emit o).tickDivider = s.tickDivider := rfl
@[simp] theorem State.tickPeriod_emit (o : Output) : (s.emit o).tickPeriod = s.tickPeriod := rfl
@[simp] theorem State.memTimeout_emit (o : Output) : (s.emit o).memTimeout = s.memTimeout := rfl
@[simp] theorem State.slots_emit (o : Output) : (s.emit o).slots = s.slots := rfl
@[simp] theorem State.servicePointer_emit (o : Output) : (s.emit o).servicePointer = s.servicePointer := rfl
@[simp] theorem State.presented_emit (o : Output) : (s.emit o).presented = s.presented := rfl
@[simp] theorem State.store_emit (o : Output) : (s.emit o).store = s.store := rfl
@[simp] theorem State.storeRequests_emit (o : Output) : (s.emit o).storeRequests = s.storeRequests := rfl
@[simp] theorem State.hostWaiting_emit (o : Output) : (s.emit o).hostWaiting = s.hostWaiting := rfl
@[simp] theorem State.granted_emit (o : Output) : (s.emit o).granted = s.granted := rfl
@[simp] theorem State.lastGranted_emit (o : Output) : (s.emit o).lastGranted = s.lastGranted := rfl
@[simp] theorem State.hostRun_emit (o : Output) : (s.emit o).hostRun = s.hostRun := rfl
@[simp] theorem State.windows_emit (o : Output) : (s.emit o).windows = s.windows := rfl
@[simp] theorem State.trap_emit (o : Output) : (s.emit o).trap = s.trap := rfl
@[simp] theorem State.lost_emit (o : Output) : (s.emit o).lost = s.lost := rfl
@[simp] theorem State.channels_emit (o : Output) : (s.emit o).channels = s.channels := rfl
@[simp] theorem State.ports_emit (o : Output) : (s.emit o).ports = s.ports := rfl
@[simp] theorem State.logs_emit (o : Output) : (s.emit o).logs = s.logs := rfl
@[simp] theorem State.screen_emit (o : Output) : (s.emit o).screen = s.screen := rfl
@[simp] theorem State.lastHit_emit (o : Output) : (s.emit o).lastHit = s.lastHit := rfl
@[simp] theorem State.direct_emit (o : Output) : (s.emit o).direct = s.direct := rfl
@[simp] theorem State.events_emit (o : Output) : (s.emit o).events = s.events := rfl
@[simp] theorem State.pending_emit (o : Output) : (s.emit o).pending = s.pending := rfl
@[simp] theorem State.ch_emit (o : Output) (x : Chan) : (s.emit o).ch x = s.ch x := rfl
@[simp] theorem State.port_emit (o : Output) (x : Chan) : (s.emit o).port x = s.port x := rfl
@[simp] theorem State.mem_emit (o : Output) (x : Chan) : (s.emit o).mem x = s.mem x := rfl
@[simp] theorem State.storeReq_emit (o : Output) (x : Chan) : (s.emit o).storeReq x = s.storeReq x := rfl
@[simp] theorem State.log_emit (o : Output) (x : Dom) : (s.emit o).log x = s.log x := rfl

/-! ### State.latchChannel -/

@[simp] theorem State.hubState_latchChannel (c : Chan) : (s.latchChannel c).hubState = s.hubState := rfl
@[simp] theorem State.hubLastCmd_latchChannel (c : Chan) : (s.latchChannel c).hubLastCmd = s.hubLastCmd := rfl
@[simp] theorem State.resetAsserted_latchChannel (c : Chan) : (s.latchChannel c).resetAsserted = s.resetAsserted := rfl
@[simp] theorem State.supplyWarn_latchChannel (c : Chan) : (s.latchChannel c).supplyWarn = s.supplyWarn := rfl
@[simp] theorem State.tickDivider_latchChannel (c : Chan) : (s.latchChannel c).tickDivider = s.tickDivider := rfl
@[simp] theorem State.tickPeriod_latchChannel (c : Chan) : (s.latchChannel c).tickPeriod = s.tickPeriod := rfl
@[simp] theorem State.memTimeout_latchChannel (c : Chan) : (s.latchChannel c).memTimeout = s.memTimeout := rfl
@[simp] theorem State.slots_latchChannel (c : Chan) : (s.latchChannel c).slots = s.slots := rfl
@[simp] theorem State.servicePointer_latchChannel (c : Chan) : (s.latchChannel c).servicePointer = s.servicePointer := rfl
@[simp] theorem State.presented_latchChannel (c : Chan) : (s.latchChannel c).presented = s.presented := rfl
@[simp] theorem State.store_latchChannel (c : Chan) : (s.latchChannel c).store = s.store := rfl
@[simp] theorem State.storeRequests_latchChannel (c : Chan) : (s.latchChannel c).storeRequests = s.storeRequests := rfl
@[simp] theorem State.hostWaiting_latchChannel (c : Chan) : (s.latchChannel c).hostWaiting = s.hostWaiting := rfl
@[simp] theorem State.granted_latchChannel (c : Chan) : (s.latchChannel c).granted = s.granted := rfl
@[simp] theorem State.lastGranted_latchChannel (c : Chan) : (s.latchChannel c).lastGranted = s.lastGranted := rfl
@[simp] theorem State.hostRun_latchChannel (c : Chan) : (s.latchChannel c).hostRun = s.hostRun := rfl
@[simp] theorem State.windows_latchChannel (c : Chan) : (s.latchChannel c).windows = s.windows := rfl
@[simp] theorem State.trap_latchChannel (c : Chan) : (s.latchChannel c).trap = s.trap := rfl
@[simp] theorem State.lost_latchChannel (c : Chan) : (s.latchChannel c).lost = s.lost := rfl
@[simp] theorem State.channels_latchChannel (c : Chan) : (s.latchChannel c).channels = s.channels := rfl
@[simp] theorem State.ports_latchChannel (c : Chan) : (s.latchChannel c).ports = s.ports := rfl
@[simp] theorem State.logs_latchChannel (c : Chan) : (s.latchChannel c).logs = s.logs := rfl
@[simp] theorem State.screen_latchChannel (c : Chan) : (s.latchChannel c).screen = s.screen := rfl
@[simp] theorem State.lastHit_latchChannel (c : Chan) : (s.latchChannel c).lastHit = s.lastHit := rfl
@[simp] theorem State.direct_latchChannel (c : Chan) : (s.latchChannel c).direct = s.direct := rfl
@[simp] theorem State.pending_latchChannel (c : Chan) : (s.latchChannel c).pending = s.pending := rfl
@[simp] theorem State.outputs_latchChannel (c : Chan) : (s.latchChannel c).outputs = s.outputs := rfl
@[simp] theorem State.ch_latchChannel (c : Chan) (x : Chan) : (s.latchChannel c).ch x = s.ch x := rfl
@[simp] theorem State.port_latchChannel (c : Chan) (x : Chan) : (s.latchChannel c).port x = s.port x := rfl
@[simp] theorem State.mem_latchChannel (c : Chan) (x : Chan) : (s.latchChannel c).mem x = s.mem x := rfl
@[simp] theorem State.storeReq_latchChannel (c : Chan) (x : Chan) : (s.latchChannel c).storeReq x = s.storeReq x := rfl
@[simp] theorem State.log_latchChannel (c : Chan) (x : Dom) : (s.latchChannel c).log x = s.log x := rfl

/-! ### State.latchDirect -/

@[simp] theorem State.hubState_latchDirect : (s.latchDirect).hubState = s.hubState := rfl
@[simp] theorem State.hubLastCmd_latchDirect : (s.latchDirect).hubLastCmd = s.hubLastCmd := rfl
@[simp] theorem State.resetAsserted_latchDirect : (s.latchDirect).resetAsserted = s.resetAsserted := rfl
@[simp] theorem State.supplyWarn_latchDirect : (s.latchDirect).supplyWarn = s.supplyWarn := rfl
@[simp] theorem State.tickDivider_latchDirect : (s.latchDirect).tickDivider = s.tickDivider := rfl
@[simp] theorem State.tickPeriod_latchDirect : (s.latchDirect).tickPeriod = s.tickPeriod := rfl
@[simp] theorem State.memTimeout_latchDirect : (s.latchDirect).memTimeout = s.memTimeout := rfl
@[simp] theorem State.slots_latchDirect : (s.latchDirect).slots = s.slots := rfl
@[simp] theorem State.servicePointer_latchDirect : (s.latchDirect).servicePointer = s.servicePointer := rfl
@[simp] theorem State.presented_latchDirect : (s.latchDirect).presented = s.presented := rfl
@[simp] theorem State.store_latchDirect : (s.latchDirect).store = s.store := rfl
@[simp] theorem State.storeRequests_latchDirect : (s.latchDirect).storeRequests = s.storeRequests := rfl
@[simp] theorem State.hostWaiting_latchDirect : (s.latchDirect).hostWaiting = s.hostWaiting := rfl
@[simp] theorem State.granted_latchDirect : (s.latchDirect).granted = s.granted := rfl
@[simp] theorem State.lastGranted_latchDirect : (s.latchDirect).lastGranted = s.lastGranted := rfl
@[simp] theorem State.hostRun_latchDirect : (s.latchDirect).hostRun = s.hostRun := rfl
@[simp] theorem State.windows_latchDirect : (s.latchDirect).windows = s.windows := rfl
@[simp] theorem State.trap_latchDirect : (s.latchDirect).trap = s.trap := rfl
@[simp] theorem State.lost_latchDirect : (s.latchDirect).lost = s.lost := rfl
@[simp] theorem State.channels_latchDirect : (s.latchDirect).channels = s.channels := rfl
@[simp] theorem State.ports_latchDirect : (s.latchDirect).ports = s.ports := rfl
@[simp] theorem State.logs_latchDirect : (s.latchDirect).logs = s.logs := rfl
@[simp] theorem State.screen_latchDirect : (s.latchDirect).screen = s.screen := rfl
@[simp] theorem State.lastHit_latchDirect : (s.latchDirect).lastHit = s.lastHit := rfl
@[simp] theorem State.direct_latchDirect : (s.latchDirect).direct = s.direct := rfl
@[simp] theorem State.pending_latchDirect : (s.latchDirect).pending = s.pending := rfl
@[simp] theorem State.outputs_latchDirect : (s.latchDirect).outputs = s.outputs := rfl
@[simp] theorem State.ch_latchDirect (x : Chan) : (s.latchDirect).ch x = s.ch x := rfl
@[simp] theorem State.port_latchDirect (x : Chan) : (s.latchDirect).port x = s.port x := rfl
@[simp] theorem State.mem_latchDirect (x : Chan) : (s.latchDirect).mem x = s.mem x := rfl
@[simp] theorem State.storeReq_latchDirect (x : Chan) : (s.latchDirect).storeReq x = s.storeReq x := rfl
@[simp] theorem State.log_latchDirect (x : Dom) : (s.latchDirect).log x = s.log x := rfl

/-! ### One update after another -/

@[simp] theorem State.modPort_modPort (s : State) (c : Chan) (f g : Port → Port) :
    (s.modPort c f).modPort c g = s.modPort c fun p => g (f p) := by simp [State.modPort]
@[simp] theorem State.modMem_modMem (s : State) (c : Chan) (f g : MemSlot → MemSlot) :
    (s.modMem c f).modMem c g = s.modMem c fun m => g (f m) := by simp [State.modMem]
@[simp] theorem State.modLog_modLog (s : State) (d : Dom) (f g : Log → Log) :
    (s.modLog d f).modLog d g = s.modLog d fun l => g (f l) := by simp [State.modLog]

/-! ### What an early ending leaves of the channel -/

@[simp] theorem Channel.state_endEarly (ch : Channel) : ch.endEarly.state = ch.state := rfl
@[simp] theorem Channel.armed_endEarly (ch : Channel) : ch.endEarly.armed = ch.armed := rfl
@[simp] theorem Channel.lastCmd_endEarly (ch : Channel) : ch.endEarly.lastCmd = ch.lastCmd := rfl
@[simp] theorem Channel.postStatus_endEarly (ch : Channel) : ch.endEarly.postStatus = ch.postStatus := rfl
@[simp] theorem Channel.queue_endEarly (ch : Channel) : ch.endEarly.queue = ch.queue := rfl
@[simp] theorem Channel.flushCount_endEarly (ch : Channel) : ch.endEarly.flushCount = ch.flushCount := rfl
@[simp] theorem Channel.current_endEarly (ch : Channel) : ch.endEarly.current = ch.current := rfl
@[simp] theorem Channel.reps_endEarly (ch : Channel) : ch.endEarly.reps = ch.reps := rfl
@[simp] theorem Channel.words_endEarly (ch : Channel) : ch.endEarly.words = ch.words := rfl
@[simp] theorem Channel.held_endEarly (ch : Channel) : ch.endEarly.held = ch.held := rfl
@[simp] theorem Channel.afterLogging_endEarly (ch : Channel) : ch.endEarly.afterLogging = ch.afterLogging := rfl
@[simp] theorem Channel.domain_endEarly (ch : Channel) : ch.endEarly.domain = ch.domain := rfl
@[simp] theorem Channel.pendingDomain_endEarly (ch : Channel) : ch.endEarly.pendingDomain = ch.pendingDomain := rfl
@[simp] theorem Channel.detached_endEarly (ch : Channel) : ch.endEarly.detached = ch.detached := rfl
@[simp] theorem Channel.detachPending_endEarly (ch : Channel) : ch.endEarly.detachPending = ch.detachPending := rfl
@[simp] theorem Channel.answerTimeout_endEarly (ch : Channel) : ch.endEarly.answerTimeout = ch.answerTimeout := rfl
@[simp] theorem Channel.readyTimeout_endEarly (ch : Channel) : ch.endEarly.readyTimeout = ch.readyTimeout := rfl
@[simp] theorem Channel.autoAsk_endEarly (ch : Channel) : ch.endEarly.autoAsk = ch.autoAsk := rfl
@[simp] theorem Channel.stopPending_endEarly (ch : Channel) : ch.endEarly.stopPending = false := rfl
@[simp] theorem Channel.readyTimer_endEarly (ch : Channel) : ch.endEarly.readyTimer = .stopped := rfl
@[simp] theorem Channel.paceTimer_endEarly (ch : Channel) : ch.endEarly.paceTimer = .stopped := rfl
@[simp] theorem Channel.run_endEarly (ch : Channel) : ch.endEarly.run = { ch.run with outWord := none } := rfl

/-! ### A recorded violation touches only the trap slot and LOST -/

@[simp] theorem State.hubState_recordTrap (s : State) (t : Trap) : (s.recordTrap t).hubState = s.hubState := by
  unfold State.recordTrap; split <;> rfl
@[simp] theorem State.hubLastCmd_recordTrap (s : State) (t : Trap) : (s.recordTrap t).hubLastCmd = s.hubLastCmd := by
  unfold State.recordTrap; split <;> rfl
@[simp] theorem State.resetAsserted_recordTrap (s : State) (t : Trap) : (s.recordTrap t).resetAsserted = s.resetAsserted := by
  unfold State.recordTrap; split <;> rfl
@[simp] theorem State.supplyWarn_recordTrap (s : State) (t : Trap) : (s.recordTrap t).supplyWarn = s.supplyWarn := by
  unfold State.recordTrap; split <;> rfl
@[simp] theorem State.tickDivider_recordTrap (s : State) (t : Trap) : (s.recordTrap t).tickDivider = s.tickDivider := by
  unfold State.recordTrap; split <;> rfl
@[simp] theorem State.tickPeriod_recordTrap (s : State) (t : Trap) : (s.recordTrap t).tickPeriod = s.tickPeriod := by
  unfold State.recordTrap; split <;> rfl
@[simp] theorem State.memTimeout_recordTrap (s : State) (t : Trap) : (s.recordTrap t).memTimeout = s.memTimeout := by
  unfold State.recordTrap; split <;> rfl
@[simp] theorem State.slots_recordTrap (s : State) (t : Trap) : (s.recordTrap t).slots = s.slots := by
  unfold State.recordTrap; split <;> rfl
@[simp] theorem State.servicePointer_recordTrap (s : State) (t : Trap) : (s.recordTrap t).servicePointer = s.servicePointer := by
  unfold State.recordTrap; split <;> rfl
@[simp] theorem State.presented_recordTrap (s : State) (t : Trap) : (s.recordTrap t).presented = s.presented := by
  unfold State.recordTrap; split <;> rfl
@[simp] theorem State.store_recordTrap (s : State) (t : Trap) : (s.recordTrap t).store = s.store := by
  unfold State.recordTrap; split <;> rfl
@[simp] theorem State.storeRequests_recordTrap (s : State) (t : Trap) : (s.recordTrap t).storeRequests = s.storeRequests := by
  unfold State.recordTrap; split <;> rfl
@[simp] theorem State.hostWaiting_recordTrap (s : State) (t : Trap) : (s.recordTrap t).hostWaiting = s.hostWaiting := by
  unfold State.recordTrap; split <;> rfl
@[simp] theorem State.granted_recordTrap (s : State) (t : Trap) : (s.recordTrap t).granted = s.granted := by
  unfold State.recordTrap; split <;> rfl
@[simp] theorem State.lastGranted_recordTrap (s : State) (t : Trap) : (s.recordTrap t).lastGranted = s.lastGranted := by
  unfold State.recordTrap; split <;> rfl
@[simp] theorem State.hostRun_recordTrap (s : State) (t : Trap) : (s.recordTrap t).hostRun = s.hostRun := by
  unfold State.recordTrap; split <;> rfl
@[simp] theorem State.windows_recordTrap (s : State) (t : Trap) : (s.recordTrap t).windows = s.windows := by
  unfold State.recordTrap; split <;> rfl
@[simp] theorem State.channels_recordTrap (s : State) (t : Trap) : (s.recordTrap t).channels = s.channels := by
  unfold State.recordTrap; split <;> rfl
@[simp] theorem State.ports_recordTrap (s : State) (t : Trap) : (s.recordTrap t).ports = s.ports := by
  unfold State.recordTrap; split <;> rfl
@[simp] theorem State.logs_recordTrap (s : State) (t : Trap) : (s.recordTrap t).logs = s.logs := by
  unfold State.recordTrap; split <;> rfl
@[simp] theorem State.screen_recordTrap (s : State) (t : Trap) : (s.recordTrap t).screen = s.screen := by
  unfold State.recordTrap; split <;> rfl
@[simp] theorem State.lastHit_recordTrap (s : State) (t : Trap) : (s.recordTrap t).lastHit = s.lastHit := by
  unfold State.recordTrap; split <;> rfl
@[simp] theorem State.direct_recordTrap (s : State) (t : Trap) : (s.recordTrap t).direct = s.direct := by
  unfold State.recordTrap; split <;> rfl
@[simp] theorem State.events_recordTrap (s : State) (t : Trap) : (s.recordTrap t).events = s.events := by
  unfold State.recordTrap; split <;> rfl
@[simp] theorem State.pending_recordTrap (s : State) (t : Trap) : (s.recordTrap t).pending = s.pending := by
  unfold State.recordTrap; split <;> rfl
@[simp] theorem State.outputs_recordTrap (s : State) (t : Trap) : (s.recordTrap t).outputs = s.outputs := by
  unfold State.recordTrap; split <;> rfl
@[simp] theorem State.ch_recordTrap (s : State) (t : Trap) (x : Chan) : (s.recordTrap t).ch x = s.ch x := by
  unfold State.ch; rw [State.channels_recordTrap]
@[simp] theorem State.port_recordTrap (s : State) (t : Trap) (x : Chan) : (s.recordTrap t).port x = s.port x := by
  unfold State.port; rw [State.ports_recordTrap]
@[simp] theorem State.mem_recordTrap (s : State) (t : Trap) (x : Chan) : (s.recordTrap t).mem x = s.mem x := by
  unfold State.mem; rw [State.slots_recordTrap]
@[simp] theorem State.storeReq_recordTrap (s : State) (t : Trap) (x : Chan) : (s.recordTrap t).storeReq x = s.storeReq x := by
  unfold State.storeReq; rw [State.storeRequests_recordTrap]
@[simp] theorem State.log_recordTrap (s : State) (t : Trap) (x : Dom) : (s.recordTrap t).log x = s.log x := by
  unfold State.log; rw [State.logs_recordTrap]

/-! ### Updates that agree where it matters are equal -/

theorem State.modCh_id (s : State) (c : Chan) : (s.modCh c fun ch => ch) = s := by
  unfold State.modCh
  rw [Vector.set_getElem_self]

theorem State.modCh_congr (s : State) (c : Chan) {f g : Channel → Channel} (h : f (s.ch c) = g (s.ch c)) :
    s.modCh c f = s.modCh c g := by
  unfold State.modCh
  rw [show f s.channels[c.val] = g s.channels[c.val] from h]

theorem State.modPort_congr (s : State) (c : Chan) {f g : Port → Port} (h : f (s.port c) = g (s.port c)) :
    s.modPort c f = s.modPort c g := by
  unfold State.modPort
  rw [show f s.ports[c.val] = g s.ports[c.val] from h]

theorem State.modMem_congr (s : State) (c : Chan) {f g : MemSlot → MemSlot} (h : f (s.mem c) = g (s.mem c)) :
    s.modMem c f = s.modMem c g := by
  unfold State.modMem
  rw [show f s.slots[c.val] = g s.slots[c.val] from h]

theorem State.modLog_congr (s : State) (d : Dom) {f g : Log → Log} (h : f (s.log d) = g (s.log d)) :
    s.modLog d f = s.modLog d g := by
  unfold State.modLog
  rw [show f s.logs[d.val] = g s.logs[d.val] from h]

end Sys2Proof.Machine
end

