-- ==== Sys2Proof/Laws/Frame.lean ====
section
/-! SUPPORT. Everything a channel engine can touch: the frame that every operation of chapters 3, 4 and 8 on channel `c`
keeps, proved once for each operation and cited instead of unfolding it. -/

namespace Sys2Proof.Machine

/-- What no operation of the engine of channel `c` changes: the hub's own registers, the store and both arbiters' state, the
other channels with their ports, slots and requests, and the settings of channel `c` itself; logs and outputs only grow. -/
structure State.Framed (c : Chan) (s t : State) : Prop where
  hubState : t.hubState = s.hubState
  hubLastCmd : t.hubLastCmd = s.hubLastCmd
  resetAsserted : t.resetAsserted = s.resetAsserted
  supplyWarn : t.supplyWarn = s.supplyWarn
  tickDivider : t.tickDivider = s.tickDivider
  tickPeriod : t.tickPeriod = s.tickPeriod
  memTimeout : t.memTimeout = s.memTimeout
  servicePointer : t.servicePointer = s.servicePointer
  presented : t.presented = s.presented
  store : t.store = s.store
  hostWaiting : t.hostWaiting = s.hostWaiting
  granted : t.granted = s.granted
  lastGranted : t.lastGranted = s.lastGranted
  hostRun : t.hostRun = s.hostRun
  windows : t.windows = s.windows
  pending : t.pending = s.pending
  direct : t.direct = s.direct
  own_armed : (t.ch c).armed = (s.ch c).armed
  own_lastCmd : (t.ch c).lastCmd = (s.ch c).lastCmd
  own_postStatus : (t.ch c).postStatus = (s.ch c).postStatus
  own_queue : (t.ch c).queue = (s.ch c).queue
  own_domain : (t.ch c).domain = (s.ch c).domain
  own_pendingDomain : (t.ch c).pendingDomain = (s.ch c).pendingDomain
  own_detached : (t.ch c).detached = (s.ch c).detached
  own_detachPending : (t.ch c).detachPending = (s.ch c).detachPending
  own_answerTimeout : (t.ch c).answerTimeout = (s.ch c).answerTimeout
  own_readyTimeout : (t.ch c).readyTimeout = (s.ch c).readyTimeout
  own_autoAsk : (t.ch c).autoAsk = (s.ch c).autoAsk
  ch : ∀ x, x ≠ c → t.ch x = s.ch x
  port : ∀ x, x ≠ c → t.port x = s.port x
  mem : ∀ x, x ≠ c → t.mem x = s.mem x
  storeReq : ∀ x, x ≠ c → t.storeReq x = s.storeReq x
  records : ∀ d, (s.log d).records <+: (t.log d).records
  threshold : ∀ d, (t.log d).threshold = (s.log d).threshold
  outputs : s.outputs <+: t.outputs

theorem State.Framed.refl (c : Chan) (s : State) : State.Framed c s s := by
  constructor <;> intros <;> rfl

theorem State.Framed.trans {c : Chan} {s t u : State} (h : State.Framed c s t) (k : State.Framed c t u) :
    State.Framed c s u where
  hubState := k.hubState.trans h.hubState
  hubLastCmd := k.hubLastCmd.trans h.hubLastCmd
  resetAsserted := k.resetAsserted.trans h.resetAsserted
  supplyWarn := k.supplyWarn.trans h.supplyWarn
  tickDivider := k.tickDivider.trans h.tickDivider
  tickPeriod := k.tickPeriod.trans h.tickPeriod
  memTimeout := k.memTimeout.trans h.memTimeout
  servicePointer := k.servicePointer.trans h.servicePointer
  presented := k.presented.trans h.presented
  store := k.store.trans h.store
  hostWaiting := k.hostWaiting.trans h.hostWaiting
  granted := k.granted.trans h.granted
  lastGranted := k.lastGranted.trans h.lastGranted
  hostRun := k.hostRun.trans h.hostRun
  windows := k.windows.trans h.windows
  pending := k.pending.trans h.pending
  direct := k.direct.trans h.direct
  own_armed := k.own_armed.trans h.own_armed
  own_lastCmd := k.own_lastCmd.trans h.own_lastCmd
  own_postStatus := k.own_postStatus.trans h.own_postStatus
  own_queue := k.own_queue.trans h.own_queue
  own_domain := k.own_domain.trans h.own_domain
  own_pendingDomain := k.own_pendingDomain.trans h.own_pendingDomain
  own_detached := k.own_detached.trans h.own_detached
  own_detachPending := k.own_detachPending.trans h.own_detachPending
  own_answerTimeout := k.own_answerTimeout.trans h.own_answerTimeout
  own_readyTimeout := k.own_readyTimeout.trans h.own_readyTimeout
  own_autoAsk := k.own_autoAsk.trans h.own_autoAsk
  ch x n := (k.ch x n).trans (h.ch x n)
  port x n := (k.port x n).trans (h.port x n)
  mem x n := (k.mem x n).trans (h.mem x n)
  storeReq x n := (k.storeReq x n).trans (h.storeReq x n)
  records d := (h.records d).trans (k.records d)
  threshold d := (k.threshold d).trans (h.threshold d)
  outputs := h.outputs.trans k.outputs

/-! ### The primitive updates -/

/-- A change of the channel that leaves its settings and its queue alone. -/
structure Channel.Kept (ch ch' : Channel) : Prop where
  armed : ch'.armed = ch.armed
  lastCmd : ch'.lastCmd = ch.lastCmd
  postStatus : ch'.postStatus = ch.postStatus
  queue : ch'.queue = ch.queue
  domain : ch'.domain = ch.domain
  pendingDomain : ch'.pendingDomain = ch.pendingDomain
  detached : ch'.detached = ch.detached
  detachPending : ch'.detachPending = ch.detachPending
  answerTimeout : ch'.answerTimeout = ch.answerTimeout
  readyTimeout : ch'.readyTimeout = ch.readyTimeout
  autoAsk : ch'.autoAsk = ch.autoAsk

theorem State.framed_modCh (s : State) (c : Chan) (f : Channel → Channel) (h : Channel.Kept (s.ch c) (f (s.ch c))) :
    State.Framed c s (s.modCh c f) := by
  constructor <;> intros <;>
    first
    | rfl
    | exact State.ch_modCh_ne s f (by assumption)
    | (rw [State.ch_modCh_same]; exact h.armed)
    | (rw [State.ch_modCh_same]; exact h.lastCmd)
    | (rw [State.ch_modCh_same]; exact h.postStatus)
    | (rw [State.ch_modCh_same]; exact h.queue)
    | (rw [State.ch_modCh_same]; exact h.domain)
    | (rw [State.ch_modCh_same]; exact h.pendingDomain)
    | (rw [State.ch_modCh_same]; exact h.detached)
    | (rw [State.ch_modCh_same]; exact h.detachPending)
    | (rw [State.ch_modCh_same]; exact h.answerTimeout)
    | (rw [State.ch_modCh_same]; exact h.readyTimeout)
    | (rw [State.ch_modCh_same]; exact h.autoAsk)

theorem State.framed_modPort (s : State) (c : Chan) (f : Port → Port) : State.Framed c s (s.modPort c f) := by
  constructor <;> intros <;>
    first
    | rfl
    | exact State.port_modPort_ne s f (by assumption)

theorem State.framed_modMem (s : State) (c : Chan) (f : MemSlot → MemSlot) : State.Framed c s (s.modMem c f) := by
  constructor <;> intros <;>
    first
    | rfl
    | exact State.mem_modMem_ne s f (by assumption)

theorem State.framed_setStoreReq (s : State) (c : Chan) (r : Option Access) :
    State.Framed c s (s.setStoreReq c r) := by
  constructor <;> intros <;>
    first
    | rfl
    | exact State.storeReq_setStoreReq_ne s r (by assumption)

theorem State.framed_emit (s : State) (c : Chan) (o : Output) : State.Framed c s (s.emit o) := by
  constructor <;> intros <;> first | rfl | exact List.prefix_append _ _

theorem State.framed_latchChannel (s : State) (c : Chan) : State.Framed c s (s.latchChannel c) := by
  constructor <;> intros <;> rfl

theorem State.framed_modLog (s : State) (c : Chan) (d : Dom) (f : Log → Log)
    (hr : (s.log d).records <+: (f (s.log d)).records) (ht : (f (s.log d)).threshold = (s.log d).threshold) :
    State.Framed c s (s.modLog d f) := by
  constructor <;> intros <;> try rfl
  case records x =>
    by_cases e : x = d
    · subst e; rw [State.log_modLog_same]; exact hr
    · rw [State.log_modLog_ne s f e]
  case threshold x =>
    by_cases e : x = d
    · subst e; rw [State.log_modLog_same]; exact ht
    · rw [State.log_modLog_ne s f e]

theorem State.framed_recordTrap (s : State) (c : Chan) (t : Trap) : State.Framed c s (s.recordTrap t) := by
  unfold State.recordTrap
  split <;> (constructor <;> intros <;> rfl)

theorem State.framed_modRun (s : State) (c : Chan) (f : Run → Run) : State.Framed c s (s.modRun c f) :=
  State.framed_modCh s c _ (by constructor <;> rfl)

theorem State.framed_modFlags (s : State) (c : Chan) (f : Flags → Flags) : State.Framed c s (s.modFlags c f) :=
  State.framed_modRun s c _

/-! ### Ports and accesses -/

theorem State.framed_send (s : State) (c : Chan) (i : Issuer) (k : Kind) (p : Payload) :
    State.Framed c s (s.send c i k p) := by
  unfold State.send
  split
  · exact .refl c s
  · exact (State.framed_modPort ..).trans (State.framed_emit ..)

theorem State.framed_endTransaction (s : State) (c : Chan) : State.Framed c s (s.endTransaction c) :=
  State.framed_modPort ..

theorem State.framed_pulseClear (s : State) (c : Chan) : State.Framed c s (s.pulseClear c) :=
  (State.framed_endTransaction s c).trans (State.framed_emit ..)

theorem State.framed_request (s : State) (c : Chan) (sp : Space) (a : Access) :
    State.Framed c s (s.request c sp a) := by
  unfold State.request
  split
  · exact State.framed_modMem ..
  · exact State.framed_setStoreReq ..

/-! ### Logging -/

theorem State.framed_leaveLogging (s : State) (c : Chan) : State.Framed c s (s.leaveLogging c) := by
  unfold State.leaveLogging
  split
  · exact State.framed_modCh _ _ _ (by constructor <;> rfl)
  · exact (State.framed_modCh _ _ _ (by constructor <;> rfl)).trans (State.framed_latchChannel ..)
  · exact State.framed_modCh _ _ _ (by constructor <;> rfl)

theorem State.framed_append (s : State) (c : Chan) (d : Dom) (r : Record) :
    State.Framed c s (s.modLog d fun l => l.append r) :=
  State.framed_modLog s c d _ (List.prefix_append _ _) rfl

theorem State.framed_holdRecord (s : State) (c : Chan) (d : Dom) (r : Record) :
    State.Framed c s (s.holdRecord c d r) :=
  (State.framed_modCh s c _ (by constructor <;> rfl)).trans (State.framed_modLog _ c d _ List.prefix_rfl rfl)

theorem State.framed_offerFlushed (s : State) (c : Chan) (r : Record) : State.Framed c s (s.offerFlushed c r) := by
  unfold State.offerFlushed
  dsimp only
  split
  · exact (State.framed_append ..).trans (State.framed_leaveLogging ..)
  · exact State.framed_holdRecord ..

theorem State.framed_produceFlushed (s : State) (c : Chan) : State.Framed c s (s.produceFlushed c) :=
  (State.framed_modCh s c _ (by constructor <;> rfl)).trans (State.framed_offerFlushed ..)

theorem State.framed_afterAccepted (s : State) (c : Chan) : State.Framed c s (s.afterAccepted c) := by
  unfold State.afterAccepted
  split
  · exact State.framed_leaveLogging ..
  · exact (State.framed_modCh s c _ (by constructor <;> rfl)).trans (State.framed_produceFlushed ..)

theorem State.framed_offer (s : State) (c : Chan) (r : Record) : State.Framed c s (s.offer c r) := by
  unfold State.offer
  dsimp only
  split
  · exact (State.framed_append ..).trans (State.framed_afterAccepted ..)
  · exact State.framed_holdRecord ..

theorem State.framed_logRecord (s : State) (c : Chan) (r : Record) : State.Framed c s (s.logRecord c r) :=
  (State.framed_modCh s c _ (by constructor <;> rfl)).trans (State.framed_offer ..)

theorem State.framed_logRun (s : State) (c : Chan) : State.Framed c s (s.logRun c) := State.framed_logRecord ..

/-! ### Screening -/

theorem State.framed_entryActs (s : State) (c : Chan) (k : Fin 8) : State.Framed c s (s.entryActs c k) := by
  unfold State.entryActs
  dsimp only
  split <;> (constructor <;> intros <;> rfl)

theorem State.framed_capture (s : State) (c : Chan) (w : Word) : State.Framed c s (s.capture c w) := by
  unfold State.capture
  dsimp only
  split
  · exact State.framed_modRun ..
  · exact ((State.framed_modRun ..).trans (State.framed_entryActs ..)).trans (State.framed_modRun ..)

/-! ### The end of a run -/

theorem State.framed_enterWriteback (s : State) (c : Chan) : State.Framed c s (s.enterWriteback c) :=
  (State.framed_modCh s c _ (by constructor <;> rfl)).trans (State.framed_request ..)

theorem State.framed_runSend (s : State) (c : Chan) (k : Kind) (p : Payload) : State.Framed c s (s.runSend c k p) :=
  (State.framed_modRun ..).trans (State.framed_send ..)

theorem State.framed_enterClosing (s : State) (c : Chan) (code : CloseCode) :
    State.Framed c s (s.enterClosing c code) := by
  have h : State.Framed c s (s.modCh c fun ch => { ch with state := .closing }) :=
    State.framed_modCh s c _ (by constructor <;> rfl)
  unfold State.enterClosing
  dsimp only
  split
  · exact h.trans (State.framed_runSend ..)
  · exact h.trans (State.framed_enterWriteback ..)

theorem State.framed_endEarly (s : State) (c : Chan) : State.Framed c s (s.modCh c Channel.endEarly) :=
  State.framed_modCh s c _ (by constructor <;> rfl)

theorem State.framed_stopEnding (s : State) (c : Chan) (o : RunOutcome) : State.Framed c s (s.stopEnding c o) :=
  ((State.framed_endEarly ..).trans (State.framed_modRun ..)).trans (State.framed_enterClosing ..)

theorem State.framed_setFault (s : State) (c : Chan) (o : RunOutcome) (step : RunStep) (a : Word) :
    State.Framed c s (s.setFault c o step a) := by
  unfold State.setFault
  exact (State.framed_endEarly ..).trans (State.framed_modRun ..)

theorem State.framed_faultAbort (s : State) (c : Chan) (o : RunOutcome) (step : RunStep) (a : Word) :
    State.Framed c s (s.faultAbort c o step a) :=
  (State.framed_setFault ..).trans (State.framed_enterClosing ..)

theorem State.framed_faultNoAnswer (s : State) (c : Chan) (step : RunStep) :
    State.Framed c s (s.faultNoAnswer c step) :=
  ((State.framed_setFault ..).trans (State.framed_pulseClear ..)).trans (State.framed_enterWriteback ..)

theorem State.framed_faultLoaded (s : State) (c : Chan) (o : RunOutcome) (a : Word) :
    State.Framed c s (s.faultLoaded c o a) :=
  (State.framed_setFault ..).trans (State.framed_enterWriteback ..)

theorem State.framed_faultUnloaded (s : State) (c : Chan) (o : RunOutcome) (a : Word) :
    State.Framed c s (s.faultUnloaded c o a) :=
  (State.framed_setFault ..).trans (State.framed_logRun ..)

theorem State.framed_closeUnanswered (s : State) (c : Chan) : State.Framed c s (s.closeUnanswered c) := by
  have h : State.Framed c s ((s.pulseClear c).modFlags c fun f => { f with closeUnanswered := true }) :=
    (State.framed_pulseClear ..).trans (State.framed_modFlags ..)
  refine h.trans ?_
  unfold State.closeUnanswered
  generalize (s.pulseClear c).modFlags c _ = s1
  dsimp only
  split
  · exact State.framed_enterWriteback ..
  · exact (State.framed_modRun ..).trans (State.framed_enterWriteback ..)

/-! ### The phases -/

theorem State.framed_boundary (s : State) (c : Chan) (go : State → State) (h : State.Framed c s (go s)) :
    State.Framed c s (s.boundary c go) := by
  unfold State.boundary
  split
  · exact State.framed_stopEnding ..
  · split
    · exact State.framed_stopEnding ..
    · exact h

theorem State.framed_enterStatus (s : State) (c : Chan) : State.Framed c s (s.enterStatus c) :=
  (State.framed_modCh s c _ (by constructor <;> rfl)).trans (State.framed_boundary _ _ _ (State.framed_runSend ..))

theorem State.framed_afterAsk (s : State) (c : Chan) : State.Framed c s (s.afterAsk c) := by
  unfold State.afterAsk
  split
  · exact State.framed_stopEnding ..
  · exact State.framed_enterClosing ..

theorem State.framed_afterPhases (s : State) (c : Chan) : State.Framed c s (s.afterPhases c) := by
  unfold State.afterPhases
  split
  · exact State.framed_enterStatus ..
  · exact State.framed_enterClosing ..

theorem State.framed_endData (s : State) (c : Chan) : State.Framed c s (s.endData c) :=
  (State.framed_modRun ..).trans (State.framed_afterPhases ..)

theorem State.framed_hailEnding (s : State) (c : Chan) : State.Framed c s (s.hailEnding c) :=
  (((State.framed_modPort ..).trans (State.framed_modCh _ c _ (by constructor <;> rfl))).trans
    (State.framed_modRun ..)).trans (State.framed_afterPhases ..)

theorem Channel.kept_beginRepetition (ch : Channel) : Channel.Kept ch ch.beginRepetition := by
  unfold Channel.beginRepetition
  split <;> (constructor <;> rfl)

theorem State.framed_sendWord (s : State) (c : Chan) : State.Framed c s (s.sendWord c) := by
  have k := Channel.kept_beginRepetition (s.ch c)
  have h : State.Framed c s (s.modCh c fun ch =>
      { ch.beginRepetition with readyTimer := .stopped, run := { ch.beginRepetition.run with outWord := none } }) :=
    State.framed_modCh s c _
      ⟨k.armed, k.lastCmd, k.postStatus, k.queue, k.domain, k.pendingDomain, k.detached, k.detachPending,
        k.answerTimeout, k.readyTimeout, k.autoAsk⟩
  unfold State.sendWord
  dsimp only
  split
  · exact h.trans (State.framed_runSend ..)
  · exact h.trans (State.framed_runSend ..)

theorem State.framed_waitReady (s : State) (c : Chan) : State.Framed c s (s.waitReady c) :=
  State.framed_modCh s c _ (by split <;> (constructor <;> rfl))

theorem State.framed_decide (s : State) (c : Chan) : State.Framed c s (s.decide c) := by
  refine State.framed_boundary _ _ _ ?_
  split
  · exact State.framed_hailEnding ..
  · split
    · exact State.framed_sendWord ..
    · exact State.framed_waitReady ..

theorem State.framed_nextWord (s : State) (c : Chan) : State.Framed c s (s.nextWord c) := by
  unfold State.nextWord
  dsimp only
  split
  · exact State.framed_request ..
  · exact State.framed_decide ..

theorem State.framed_startRepetition (s : State) (c : Chan) : State.Framed c s (s.startRepetition c) :=
  (State.framed_modCh s c _ (by constructor <;> rfl)).trans (State.framed_nextWord ..)

theorem State.framed_repetitionDone (s : State) (c : Chan) : State.Framed c s (s.repetitionDone c) := by
  refine (State.framed_modRun ..).trans (State.framed_boundary _ _ _ ?_)
  dsimp only
  split
  · exact State.framed_endData ..
  split
  · exact State.framed_hailEnding ..
  split
  · exact State.framed_endData ..
  split
  · exact State.framed_startRepetition ..
  · exact State.framed_modCh _ c _ (by constructor <;> rfl)

theorem State.framed_wordDone (s : State) (c : Chan) (b : Bool) : State.Framed c s (s.wordDone c b) := by
  have h : State.Framed c s (s.modCh c fun ch =>
      { ch with words := if b then ch.words + 1 else ch.words,
                run := { ch.run with position := ch.run.position + 1, remaining := ch.run.remaining - 1 } }) :=
    State.framed_modCh s c _ (by constructor <;> rfl)
  refine h.trans ?_
  unfold State.wordDone
  generalize s.modCh c _ = s1
  dsimp only
  split
  · exact State.framed_repetitionDone ..
  · exact State.framed_boundary _ _ _ (State.framed_nextWord ..)

theorem State.framed_pacingCheck (s : State) (c : Chan) : State.Framed c s (s.pacingCheck c) := by
  refine State.framed_boundary _ _ _ ?_
  split
  · exact State.framed_hailEnding ..
  · exact .refl c s

theorem State.framed_reexamine (s : State) (c : Chan) : State.Framed c s (s.reexamine c) := by
  unfold State.reexamine
  split
  · exact State.framed_decide ..
  split
  · exact State.framed_pacingCheck ..
  · exact .refl c s

theorem State.framed_enterTurn (s : State) (c : Chan) : State.Framed c s (s.enterTurn c) :=
  (State.framed_modCh s c _ (by constructor <;> rfl)).trans (State.framed_runSend ..)

theorem State.framed_afterLeads (s : State) (c : Chan) : State.Framed c s (s.afterLeads c) := by
  unfold State.afterLeads
  dsimp only
  split
  · exact State.framed_enterTurn ..
  split
  · exact State.framed_startRepetition ..
  · exact State.framed_endData ..

theorem State.framed_fetchLead (s : State) (c : Chan) : State.Framed c s (s.fetchLead c) := State.framed_request ..

theorem State.framed_leadDone (s : State) (c : Chan) : State.Framed c s (s.leadDone c) := by
  refine (State.framed_modRun ..).trans (State.framed_boundary _ _ _ ?_)
  split
  · exact State.framed_afterLeads ..
  · exact State.framed_fetchLead ..

theorem State.framed_leaveLoading (s : State) (c : Chan) : State.Framed c s (s.leaveLoading c) := by
  unfold State.leaveLoading
  split
  · exact State.framed_afterLeads ..
  · exact (State.framed_modCh s c _ (by constructor <;> rfl)).trans (State.framed_fetchLead ..)

theorem State.framed_checkRanges (s : State) (c : Chan) : State.Framed c s (s.checkRanges c) := by
  unfold State.checkRanges
  dsimp only
  split
  · exact (State.framed_recordTrap ..).trans (State.framed_faultLoaded ..)
  split
  · exact (State.framed_recordTrap ..).trans (State.framed_faultLoaded ..)
  · exact (State.framed_modRun ..).trans (State.framed_boundary _ _ _ (State.framed_leaveLoading ..))

theorem State.framed_descriptorRead (s : State) (c : Chan) (ws : List Word) :
    State.Framed c s (s.descriptorRead c ws) := by
  unfold State.descriptorRead
  dsimp only
  split
  · exact (State.framed_modRun ..).trans (State.framed_checkRanges ..)
  · exact (State.framed_modRun ..).trans (State.framed_faultLoaded ..)

theorem State.framed_beginLoad (s : State) (c : Chan) : State.Framed c s (s.beginLoad c) := by
  unfold State.beginLoad
  dsimp only
  split
  · exact (State.framed_modRun ..).trans (State.framed_request ..)
  · exact (State.framed_recordTrap ..).trans (State.framed_faultUnloaded ..)

/-! ### Attention service and results -/

theorem State.framed_beginService (s : State) (c : Chan) : State.Framed c s (s.beginService c) :=
  (State.framed_modCh s c _ (by constructor <;> rfl)).trans (State.framed_send ..)

theorem State.framed_newHail (s : State) (c : Chan) : State.Framed c s (s.newHail c) := by
  unfold State.newHail
  split
  · exact State.framed_beginService ..
  · exact State.framed_latchChannel ..

theorem State.framed_serviceAnswer (s : State) (c : Chan) (res : LinkResult) :
    State.Framed c s (s.serviceAnswer c res) := by
  cases res
  · exact (State.framed_capture ..).trans (State.framed_logRecord ..)
  · exact State.framed_logRecord ..
  · exact (State.framed_pulseClear ..).trans (State.framed_logRecord ..)

theorem State.framed_runAnswer (s : State) (c : Chan) (step : RunStep) (res : LinkResult)
    (accepted : Word → State → State) (tolerated : State → State) (ha : ∀ w, State.Framed c s (accepted w s))
    (ht : ∀ u, State.Framed c u (tolerated u)) : State.Framed c s (s.runAnswer c step res accepted tolerated) := by
  unfold State.runAnswer
  split
  · exact ha _
  · split
    · exact (State.framed_modRun ..).trans (ht _)
    · exact State.framed_faultAbort ..
  · exact State.framed_faultNoAnswer ..

/-- The result of the channel's transaction, whatever its state (R46, R59, R145). -/
theorem State.framed_channelResult (s : State) (c : Chan) (res : LinkResult) :
    State.Framed c s (s.channelResult c res) := by
  unfold State.channelResult
  split
  · exact State.framed_runAnswer _ _ _ _ _ _ (fun _ => State.framed_leadDone ..) fun u => State.framed_leadDone u c
  · exact State.framed_runAnswer _ _ _ _ _ _
      (fun _ => State.framed_boundary _ _ _ (State.framed_startRepetition ..))
      fun u => State.framed_boundary u _ _ (State.framed_startRepetition ..)
  · refine State.framed_runAnswer _ _ _ _ _ _ (fun _ => ?_) fun u => State.framed_wordDone u c _
    split
    · exact State.framed_wordDone ..
    · exact State.framed_request ..
  · exact State.framed_runAnswer _ _ _ _ _ _
      (fun _ => (State.framed_capture ..).trans (State.framed_afterAsk ..)) fun u => State.framed_afterAsk u c
  · split
    · exact State.framed_closeUnanswered ..
    · exact State.framed_enterWriteback ..
  · exact State.framed_serviceAnswer ..
  · exact .refl c s

/-- The result of the channel's access, whatever its state (R45, R48, R53, R60, R79). -/
theorem State.framed_accessResult (s : State) (c : Chan) (res : AccessResult) :
    State.Framed c s (s.accessResult c res) := by
  unfold State.accessResult
  dsimp only
  split
  · exact State.framed_descriptorRead ..
  · exact State.framed_faultUnloaded ..
  · exact State.framed_boundary _ _ _ (State.framed_runSend ..)
  · exact State.framed_faultAbort ..
  · split
    · exact (State.framed_modRun ..).trans (State.framed_decide ..)
    · exact State.framed_wordDone ..
  · exact State.framed_faultAbort ..
  · exact State.framed_logRun ..
  · exact (State.framed_modFlags ..).trans (State.framed_logRun ..)
  · exact .refl c s

end Sys2Proof.Machine
end

