-- ==== Sys2Proof/Laws/Guard.lean ====
section
/-! SUPPORT. The register map and the Guard: where each register lies, whom R104 grants it, and what a host write does that
reaches its block, violates, or meets INITIALISING. -/

namespace Sys2Proof.Machine

/-! ### Where the registers lie -/

theorem groupChannel_ch (c : Chan) (r : ChReg) : groupChannel (Reg.offset (.ch c r)) = some c := by
  cases r <;> revert c <;> decide
theorem windowLog_ch (c : Chan) (r : ChReg) : windowLog (Reg.offset (.ch c r)) = none := by
  cases r <;> revert c <;> decide
theorem offset_ch_ge (c : Chan) (r : ChReg) : ¬ (Reg.offset (.ch c r)).toNat < 4 := by
  cases r <;> revert c <;> decide
theorem groupChannel_log (d : Dom) (r : LogReg) : groupChannel (Reg.offset (.log d r)) = none := by
  rcases r with _ | _ | _ | k
  · revert d; decide
  · revert d; decide
  · revert d; decide
  · revert d k; decide
theorem windowLog_log (d : Dom) (r : LogReg) : windowLog (Reg.offset (.log d r)) = some d := by
  rcases r with _ | _ | _ | k
  · revert d; decide
  · revert d; decide
  · revert d; decide
  · revert d k; decide
theorem offset_log_ge (d : Dom) (r : LogReg) : ¬ (Reg.offset (.log d r)).toNat < 4 := by
  rcases r with _ | _ | _ | k
  · revert d; decide
  · revert d; decide
  · revert d; decide
  · revert d k; decide

/-! ### Who is granted what (R104) -/

/-- Registers of the regions reserved to domain 0: all but ID, the channel groups and the log windows (R104). -/
def Reg.supervisorOnly : Reg → Bool
  | .id | .ch _ _ | .log _ _ => false
  | _ => true

theorem grants_supervisor (s : State) (d : Dom) (r : Reg) (h : r.supervisorOnly = true) :
    s.grants d r.offset = (d == 0) := by
  have key : groupChannel r.offset = none ∧ windowLog r.offset = none ∧ ¬ r.offset.toNat < 4 := by
    cases r <;> simp [Reg.supervisorOnly] at h <;>
      first
      | decide
      | (rename_i t; revert t; decide)
      | (rename_i t u; revert t u; decide)
  simp [State.grants, key.1, key.2.1, key.2.2]

theorem grants_ch (s : State) (d : Dom) (c : Chan) (r : ChReg) :
    s.grants d (Reg.offset (.ch c r)) = (d == 0 || (s.ch c).domain == d) := by
  simp [State.grants, groupChannel_ch, windowLog_ch, offset_ch_ge]

theorem grants_log (s : State) (d l : Dom) (r : LogReg) :
    s.grants d (Reg.offset (.log l r)) = (d == 0 || d == l) := by
  have : (some l == some d) = (d == l) := by
    by_cases h : d = l <;> simp [h, eq_comm]
  simp [State.grants, groupChannel_log, windowLog_log, offset_log_ge, this]

theorem State.permits_ch (s : State) (d : Dom) (c : Chan) (r : ChReg) :
    s.permits d (.ch c r) = true ↔ s.reachesChannel d c := by
  unfold State.permits State.reachesChannel State.verdict
  rw [grants_ch]
  by_cases h : s.hubState = .initialising
  · simp [h]
  · by_cases h2 : d = 0 <;> by_cases h3 : (s.ch c).domain = d <;> simp [h, h2, h3]

/-- The offsets of a channel's register group (section 12.2). -/
theorem groupChannel_eq_some (off : Offset) (c : Chan) :
    groupChannel off = some c ↔ 0x400 + 0x80 * c.val ≤ off.toNat ∧ off.toNat < 0x480 + 0x80 * c.val := by
  unfold groupChannel
  have := off.isLt
  have := c.isLt
  split
  · simp [Fin.ext_iff, Fin.ofNat]
    omega
  · simp
    omega

/-- The offsets of a log's window (section 12.2). -/
theorem windowLog_eq_some (off : Offset) (d : Dom) :
    windowLog off = some d ↔ 0x800 + 0x40 * d.val ≤ off.toNat ∧ off.toNat < 0x840 + 0x40 * d.val := by
  unfold windowLog
  have := off.isLt
  have := d.isLt
  split
  · simp [Fin.ext_iff, Fin.ofNat]
    omega
  · simp
    omega

/-! ### Host writes -/

theorem State.hostWrite_initialising (s : State) (d : Dom) (r : Reg) (act : State → State)
    (h : s.hubState = .initialising) : s.hostWrite d r act = s := by
  simp [State.hostWrite, State.guarded, State.verdict, h]

theorem State.hostWrite_granted (s : State) (d : Dom) (r : Reg) (act : State → State)
    (h : s.hubState ≠ .initialising) (g : s.grants d r.offset = true) : s.hostWrite d r act = act s := by
  simp [State.hostWrite, State.guarded, State.verdict, h, g]

theorem State.hostWrite_violation (s : State) (d : Dom) (r : Reg) (act : State → State)
    (h : s.hubState ≠ .initialising) (g : s.grants d r.offset = false) :
    s.hostWrite d r act = s.recordTrap (registerTrap d r.offset) := by
  simp [State.hostWrite, State.guarded, State.verdict, h, g]

theorem State.hostWrite_ch (s : State) (d : Dom) (c : Chan) (r : ChReg) (act : State → State)
    (h : s.reachesChannel d c) : s.hostWrite d (.ch c r) act = act s :=
  s.hostWrite_granted d _ act h.1 (by rw [grants_ch]; rcases h.2 with e | e <;> simp [e])

theorem State.hostWrite_log (s : State) (d l : Dom) (r : LogReg) (act : State → State) (h : s.reachesLog d l) :
    s.hostWrite d (.log l r) act = act s :=
  s.hostWrite_granted d _ act h.1 (by rw [grants_log]; rcases h.2 with e | e <;> simp [e])

theorem State.hostWrite_hub (s : State) (d : Dom) (r : Reg) (act : State → State) (h : s.reachesHub d)
    (hr : r.supervisorOnly = true) : s.hostWrite d r act = act s :=
  s.hostWrite_granted d _ act h.1 (by rw [grants_supervisor s d r hr, h.2]; rfl)

end Sys2Proof.Machine
end

