-- ==== Sys2Proof/Laws/Moment.lean ====
section
/-! SUPPORT. The order of a moment: what it makes of a step of the hub's own and a host access, and of host accesses alone. -/

namespace Sys2Proof.Machine

@[simp] theorem noHailChange_single (i : Instr) : noHailChange [i] i = false := by
  cases i <;> simp [noHailChange]

/-- No step overtakes itself. -/
@[simp] theorem overtaken_single (i : Instr) : overtaken [i] i = false := by
  cases i <;> rfl

@[simp] theorem overtaken_nil (i : Instr) : overtaken [] i = false := rfl

/-- A change of RESET waits for no host access by R172. -/
theorem comesAfterAccess_changesReset (s : State) (a : Option Instr) {i : Instr} (h : changesReset i = true) :
    s.comesAfterAccess a i = false := by
  cases a with
  | none => rfl
  | some a =>
    cases i <;> first | rfl | simp [changesReset] at h

theorem asksStore_of_clearsFirst {i : Instr} (h : clearsFirst i = true) : asksStore i = false := by
  cases i <;> first | rfl | simp [clearsFirst] at h

/-- A step of the hub's own and a host access at one moment, in either order of the list: the step first, unless the access is
one that comes first, or the step is an expiry that the access prevails over or a change of RESET. -/
theorem State.inOrder_step_access (s : State) (i a : Instr) (hi : senderOf i = none) (ha : (senderOf a).isSome = true) :
    let order := if clearsFirst a || s.comesAfterAccess (some a) i || changesReset i then [a, i] else [i, a]
    s.inOrder [i, a] = order ∧ s.inOrder [a, i] = order := by
  have hn : (senderOf a).isNone = false := by cases h : senderOf a <;> simp_all
  have hx := comesAfterAccess_changesReset s (some a) (i := i)
  cases hc : clearsFirst a with
  | true =>
    have hs := asksStore_of_clearsFirst hc
    cases hr : changesReset i <;> cases hl : s.comesAfterAccess (some a) i <;>
      first
      | exact absurd ((hx hr).symm.trans hl) Bool.false_ne_true
      | simp [State.inOrder, State.momentOf, hi, ha, hn, hc, hs, hl, hr, sortByKey, insertByKey, Option.filter]
  | false =>
    cases hs : asksStore a <;> cases hr : changesReset i <;> cases hl : s.comesAfterAccess (some a) i <;>
      first
      | exact absurd ((hx hr).symm.trans hl) Bool.false_ne_true
      | simp [State.inOrder, State.momentOf, hi, ha, hn, hc, hs, hl, hr, sortByKey, insertByKey, Option.filter]

/-- What a moment of one step of the hub's own and one host access leaves, where the access is decided after the step. -/
theorem State.moment_step_access (s : State) (i a : Instr) (hi : senderOf i = none) (ha : (senderOf a).isSome = true)
    (hc : clearsFirst a = false) (hs : asksStore a = false) (hl : s.comesAfterAccess (some a) i = false)
    (hr : changesReset i = false) :
    let left := s.afterAccess (s.takeCounted i).settle [i] a
    s.moment [i, a] = left ∧ s.moment [a, i] = left := by
  have hn : (senderOf a).isNone = false := by cases h : senderOf a <;> simp_all
  simp [State.moment, State.momentOf, hi, ha, hn, hc, hs, hl, hr, sortByKey, insertByKey, Option.filter]

/-! ### The set that prevails (R9) -/

/-- A stray answer sets its flag and does nothing else, and so neither grants nor presents anything. -/
theorem State.takeCounted_stray (s : State) (c : Chan) (code : AnswerCode) (kind : BitVec 3) (seq : BitVec 8) (word : Option Word)
    (hr : s.resetAsserted = false) (h : s.isStray c (.answer c code kind seq word) = true) :
    s.takeCounted (.answer c code kind seq word) = s.strayAnswer c := by
  have key : s.afterCommand (.answer c code kind seq word) = s.strayAnswer c := by
    simp only [State.isStray, beq_self_eq_true, Bool.true_and] at h
    simp only [State.afterCommand, exec, execAnswer, hr]
    cases ho : (s.port c).outstanding with
    | none => simp
    | some t => rw [ho] at h; simp_all
  have hg : s.granted.isNone = true → s.withoutGrant (s.strayAnswer c) = s.strayAnswer c := by
    intro hn
    have : (s.strayAnswer c).granted = none := Option.isNone_iff_eq_none.mp hn
    unfold State.withoutGrant
    rw [this]
  have hp : s.presented.isNone = true → { s.strayAnswer c with presented := none } = s.strayAnswer c := by
    intro hn
    have : (s.strayAnswer c).presented = none := Option.isNone_iff_eq_none.mp hn
    rw [← this]
  unfold State.takeCounted
  rw [key]
  cases h1 : s.granted.isNone <;> cases h2 : s.presented.isNone <;> simp_all

/-- A flag that is set, cleared by the write and set again is as it was. -/
theorem State.strayAnswer_cleared (t : State) (c : Chan) (h : (t.port c).stray = true) :
    (t.modPort c fun p => { p with stray := false }).strayAnswer c = t := by
  have e : { t.ports[c.val] with stray := true } = t.ports[c.val] := by
    have hp : t.ports[c.val].stray = true := h
    rw [← hp]
  unfold State.strayAnswer State.modPort
  simp only [Vector.getElem_set_self, Vector.set_set]
  rw [e, Vector.set_getElem_self]

/-- A write of 1 to STRAY that meets a stray answer of its moment leaves the flag as the answer has set it, whoever writes. -/
theorem State.afterAccess_strayPrevails (s t : State) (d : Dom) (c : Chan) (steps : List Instr)
    (ha : s.strayArrives c steps = true) (hf : (t.port c).stray = true) :
    ((s.afterAccess t steps (.chPortStrayClear d c)).port c).stray = true := by
  simp [State.afterAccess, ha, hf, State.strayAnswer]

/-- At a moment with no stray answer at the port, the write is taken as it is at any time. -/
theorem State.afterAccess_noStray (s t : State) (d : Dom) (c : Chan) (steps : List Instr) (ha : s.strayArrives c steps = false) :
    s.afterAccess t steps (.chPortStrayClear d c) = t.afterCommand (.chPortStrayClear d c) := by
  simp [State.afterAccess, ha]

/-- Host accesses alone keep the order of their delivery (R85, R103, R184). -/
theorem State.inOrder_accesses (s : State) (is : List Instr) (h : ∀ i ∈ is, (senderOf i).isSome = true) :
    s.inOrder is = is := by
  have hown : (is.filter fun i => (senderOf i).isNone) = [] := by
    rw [List.filter_eq_nil_iff]
    intro i hi
    have := h i hi
    cases hs : senderOf i <;> simp_all
  have hacc : (is.filter fun i => (senderOf i).isSome) = is := List.filter_eq_self.mpr h
  unfold State.inOrder State.momentOf
  simp only [hown, hacc, List.filter_nil]
  cases is with
  | nil => rfl
  | cons a rest =>
    cases hc : clearsFirst a with
    | true => simp [hc, asksStore_of_clearsFirst hc, sortByKey]
    | false => cases hs : asksStore a <;> simp [hc, hs, sortByKey, Option.filter]

end Sys2Proof.Machine
end

