-- ==== Sys2Proof/Laws/Order.lean ====
section
/-! SUPPORT. The round-robin order of R125 and R132: what `nextAfter` finds. -/

namespace Sys2Proof.Machine

/-- The first of a rising list with a property is the least of the list with it. -/
theorem find_eq_some_of_rising {f : Chan → Chan} {p : Chan → Bool} : ∀ (l : List Chan), l.Pairwise (fun a b => f a < f b) →
    ∀ c, l.find? p = some c ↔ c ∈ l ∧ p c = true ∧ ∀ x ∈ l, p x = true → f c ≤ f x
  | [], _, c => by simp
  | a :: l, h, c => by
    rw [List.pairwise_cons] at h
    rw [List.find?_cons]
    have ih := find_eq_some_of_rising (p := p) l h.2 c
    cases hp : p a with
    | true =>
      simp only [Option.some.injEq]
      constructor
      · rintro rfl
        refine ⟨List.mem_cons_self, hp, fun x hx _ => ?_⟩
        rcases List.mem_cons.mp hx with rfl | hx
        · exact le_refl _
        · exact le_of_lt (h.1 x hx)
      · rintro ⟨hc, _, hmin⟩
        rcases List.mem_cons.mp hc with rfl | hc
        · rfl
        · exact absurd (hmin a List.mem_cons_self hp) (not_le.mpr (h.1 c hc))
    | false =>
      simp only
      rw [ih]
      constructor
      · rintro ⟨h1, h2, h3⟩
        refine ⟨List.mem_cons_of_mem _ h1, h2, fun x hx hpx => ?_⟩
        rcases List.mem_cons.mp hx with rfl | hx
        · simp [hp] at hpx
        · exact h3 x hx hpx
      · rintro ⟨h1, h2, h3⟩
        rcases List.mem_cons.mp h1 with rfl | h1
        · simp [hp] at h2
        · exact ⟨h1, h2, fun x hx => h3 x (List.mem_cons_of_mem _ hx)⟩

/-- `nextAfter` finds the channel with the property that comes soonest after the last one. -/
theorem nextAfter_eq_some (last : Chan) (p : Chan → Bool) (c : Chan) :
    nextAfter last p = some c ↔ p c = true ∧ ∀ x, p x = true → c - last - 1 ≤ x - last - 1 := by
  unfold nextAfter
  have hr : ([last + 1, last + 2, last + 3, last + 4, last + 5, last + 6, last + 7, last] : List Chan).Pairwise
      (fun a b => a - last - 1 < b - last - 1) := by
    revert last; decide
  have hm : ∀ x : Chan, x ∈ ([last + 1, last + 2, last + 3, last + 4, last + 5, last + 6, last + 7, last] : List Chan) := by
    revert last; decide
  rw [find_eq_some_of_rising (f := fun a => a - last - 1) _ hr]
  simp [hm]

/-- `nextAfter` finds nothing exactly when no channel has the property. -/
theorem nextAfter_eq_none (last : Chan) (p : Chan → Bool) : nextAfter last p = none ↔ ∀ x, p x = false := by
  unfold nextAfter
  have hm : ∀ x : Chan, x ∈ ([last + 1, last + 2, last + 3, last + 4, last + 5, last + 6, last + 7, last] : List Chan) := by
    revert last; decide
  rw [List.find?_eq_none]
  exact ⟨fun h x => by simpa using h x (hm x), fun h x _ => by simp [h x]⟩

/-- A property of some channel, over the list of all of them. -/
theorem allChans_any (p : Chan → Bool) : allChans.any p = true ↔ ∃ c, p c = true := by
  have hm : ∀ x : Chan, x ∈ allChans := by decide
  rw [List.any_eq_true]
  exact ⟨fun ⟨x, _, h⟩ => ⟨x, h⟩, fun ⟨x, h⟩ => ⟨x, hm x, h⟩⟩

/-- A property of every channel, over the list of all of them. -/
theorem allChans_all (p : Chan → Bool) : allChans.all p = true ↔ ∀ c, p c = true := by
  have hm : ∀ x : Chan, x ∈ allChans := by decide
  rw [List.all_eq_true]
  exact ⟨fun h x => h x (hm x), fun h x _ => h x⟩

end Sys2Proof.Machine
end

