-- ==== Sys2Proof/Laws/Run.lean ====
section
/-! SUPPORT. What each shared operation of a run does, case by case: sending, the boundaries, the data decision point, closing
and logging. -/

namespace Sys2Proof.Machine

theorem Timer.start_toNat {w : Nat} (n : BitVec w) :
    Timer.start n.toNat = if n = 0 then Timer.unlimited else .running n.toNat := by
  unfold Timer.start
  by_cases h : n = 0
  · simp [h]
  · have : ¬ n.toNat = 0 := fun h2 => h (BitVec.eq_of_toNat_eq (by simpa using h2))
    rw [if_neg this, if_neg h]

/-- The saturating increase of a 16-bit counter (00_scope.md, 4.1). -/
theorem satInc_16 (x : BitVec 16) : satInc x = if x = 0xFFFF then 0xFFFF else x + 1 := by
  unfold satInc
  by_cases h : x = 0xFFFF
  · subst h; rfl
  · rw [if_neg h, if_neg (by intro e; exact h e)]

/-- The saturating increase of the refusal count (R46). -/
theorem satInc_8 (x : BitVec 8) : satInc x = if x = 255 then 255 else x + 1 := by
  unfold satInc
  by_cases h : x = 255
  · subst h; rfl
  · rw [if_neg h, if_neg (by intro e; exact h e)]

/-! ### Sending (R3, R6, R47) -/

theorem State.send_idle (s : State) (c : Chan) (i : Issuer) (k : Kind) (p : Payload)
    (h : (s.port c).outstanding = none) :
    s.send c i k p = (s.modPort c fun q => q.sending (s.ch c).answerTimeout i k).emit
      (.transaction c k (s.port c).seq p) := by
  unfold State.send
  rw [h]
  simp only [Port.sending, ← Timer.start_toNat]

theorem State.send_busy (s : State) (c : Chan) (i : Issuer) (k : Kind) (p : Payload) (t : Transaction)
    (h : (s.port c).outstanding = some t) : s.send c i k p = s := by
  unfold State.send
  rw [h]

theorem State.runSend_idle (s : State) (c : Chan) (k : Kind) (p : Payload) (h : (s.port c).outstanding = none) :
    s.runSend c k p = (s.modRun c fun r => { r with portUsed := true }).sends c k p := by
  unfold State.runSend
  rw [State.send_idle _ _ _ _ _ (by simpa using h)]
  rfl

/-! ### Boundaries (R41) -/

theorem State.boundary_stop (s : State) (c : Chan) (go : State → State) (h : (s.ch c).stopPending = true) :
    s.boundary c go = s.stopEnding c .stopped := by simp [State.boundary, h]

theorem State.boundary_quiesce (s : State) (c : Chan) (go : State → State) (h : (s.ch c).stopPending = false)
    (q : s.hubState = .quiescing) : s.boundary c go = s.stopEnding c .quiesced := by simp [State.boundary, h, q]

theorem State.boundary_go (s : State) (c : Chan) (go : State → State) (h : (s.ch c).stopPending = false)
    (q : s.hubState ≠ .quiescing) : s.boundary c go = go s := by simp [State.boundary, h, q]

/-! ### Closing (R59, R70, R73) -/

theorem State.enterClosing_used (s : State) (c : Chan) (code : CloseCode) (h : (s.ch c).run.portUsed = true)
    (o : (s.port c).outstanding = none) :
    s.enterClosing c code =
      State.sends (s.modCh c fun ch => { ch with state := .closing, run := { ch.run with portUsed := true } }) c .close
        (.close code) := by
  unfold State.enterClosing
  rw [if_pos h, State.runSend_idle _ _ _ _ (by simpa using o)]
  simp

theorem State.enterClosing_unused (s : State) (c : Chan) (code : CloseCode) (h : (s.ch c).run.portUsed = false) :
    s.enterClosing c code = (s.modCh c fun ch => { ch with state := .closing }).enterWriteback c := by
  unfold State.enterClosing
  simp [h]

/-! ### The data decision point (R51) -/

/-- Waiting for READY does not depend on the partner's levels or on the port's flags. -/
theorem State.waitsForReady_modPort (s : State) (c x : Chan) (f : Port → Port)
    (h : ∀ p, (f p).outstanding = p.outstanding) : (s.modPort x f).waitsForReady c ↔ s.waitsForReady c := by
  have hp : ((s.modPort x f).port c).outstanding = (s.port c).outstanding := by
    by_cases hx : c = x
    · subst hx; simp [h]
    · rw [State.port_modPort_ne s f hx]
  have : (s.modPort x f).channelOnPort c = s.channelOnPort c := by simp only [State.channelOnPort, hp]
  have hw : (s.modPort x f).wait c = s.wait c := by
    unfold State.wait
    rw [this]
    rfl
  unfold State.waitsForReady
  rw [hw]
  rfl

theorem State.reexamine_wait (s : State) (c : Chan) (h : s.waitsForReady c) : s.reexamine c = s.decide c := by
  unfold State.reexamine
  unfold State.waitsForReady at h
  rw [if_pos h]

theorem State.reexamine_pacing (s : State) (c : Chan) (h : (s.ch c).state = .pacing) :
    s.reexamine c = s.pacingCheck c := by
  unfold State.reexamine
  rw [if_neg (by simp [h]), if_pos h]

theorem State.reexamine_other (s : State) (c : Chan) (h : ¬ s.waitsForReady c) (p : (s.ch c).state ≠ .pacing) :
    s.reexamine c = s := by
  unfold State.reexamine
  unfold State.waitsForReady at h
  rw [if_neg h, if_neg p]

theorem State.decide_hail (s : State) (c : Chan) (h : (s.ch c).stopPending = false) (q : s.hubState ≠ .quiescing)
    (a : (s.port c).hail = true) : s.decide c = s.hailEnding c := by
  simp [State.decide, State.boundary, h, q, a]

theorem State.decide_ready (s : State) (c : Chan) (u : s.undisturbed c) (r : (s.port c).ready = true) :
    s.decide c = s.sendWord c := by
  simp [State.decide, State.boundary, u.1, u.2.1, u.2.2, r]

theorem State.decide_wait (s : State) (c : Chan) (u : s.undisturbed c) (r : (s.port c).ready = false) :
    s.decide c = s.waitReady c := by
  simp [State.decide, State.boundary, u.1, u.2.1, u.2.2, r]

/-! ### Logging (R61, R62, R81, R92) -/

/-- Updates of different parts of the state commute. -/
theorem State.modLog_modCh (s : State) (c : Chan) (d : Dom) (f : Channel → Channel) (g : Log → Log) :
    (s.modCh c f).modLog d g = (s.modLog d g).modCh c f := rfl

theorem State.recordTrap_modCh (s : State) (c : Chan) (f : Channel → Channel) (t : Trap) :
    (s.modCh c f).recordTrap t = (s.recordTrap t).modCh c f := by
  unfold State.recordTrap
  cases h : s.trap <;> simp only [State.trap_modCh, h] <;> rfl

/-- A log with room accepts the record; with no run flushed beside it, the channel leaves LOGGING at once, for HALTED with its
event source latched if the record's HALTED flag is set, and otherwise for IDLE. -/
theorem State.logRecord_room (s : State) (c : Chan) (r : Record)
    (room : (s.log (s.ch c).domain).records.length < 16) (f : (s.ch c).flushCount = 0) :
    s.logRecord c r =
      let u := (s.modLog (s.ch c).domain fun l => { l with records := l.records ++ [r] }).modCh c fun ch =>
        { ch with
          state := if r.flags.halted then .halted else .idle, run := Run.blank, held := none,
          afterLogging := if r.flags.halted then .halt else .idle }
      if r.flags.halted then u.latchChannel c else u := by
  have hroom : (s.log (s.ch c).domain).hasRoom = true := decide_eq_true room
  unfold State.logRecord State.offer
  simp only [State.ch_modCh_same, State.log_modCh, hroom, if_true, State.modLog_modCh]
  unfold State.afterAccepted
  rw [if_pos (by simpa using f)]
  unfold State.leaveLogging
  cases r.flags.halted <;> simp [Log.append]

/-- With a pending flush count, the FLUSHED record follows the accepted one into a log that has room for both. -/
theorem State.logRecord_room_flushed (s : State) (c : Chan) (r : Record)
    (room : (s.log (s.ch c).domain).records.length < 15) (f : (s.ch c).flushCount ≠ 0) :
    s.logRecord c r =
      let u := (s.modLog (s.ch c).domain fun l =>
        { l with records := l.records ++ [r, flushedRecord c (s.ch c).flushCount] }).modCh c fun ch =>
        { ch with
          state := if r.flags.halted then .halted else .idle, run := Run.blank, held := none,
          afterLogging := if r.flags.halted then .halt else .idle, flushCount := 0 }
      if r.flags.halted then u.latchChannel c else u := by
  have hroom : (s.log (s.ch c).domain).hasRoom = true := decide_eq_true (show _ < 16 by omega)
  have hroom2 : ((s.log (s.ch c).domain).append r).hasRoom = true :=
    decide_eq_true (show _ < 16 by simp [Log.append]; omega)
  unfold State.logRecord State.offer
  simp only [State.ch_modCh_same, State.log_modCh, hroom, if_true, State.modLog_modCh]
  unfold State.afterAccepted
  rw [if_neg (by simpa using f)]
  unfold State.produceFlushed State.offerFlushed
  simp only [State.modCh_modCh, State.modLog_modCh, State.ch_modCh_same, State.log_modCh, State.ch_modLog,
    State.log_modLog_same, hroom2, if_true]
  unfold State.leaveLogging
  cases r.flags.halted <;> simp [Log.append]

/-- With a pending flush count, the accepted record takes the last place and the channel holds the FLUSHED record. -/
theorem State.logRecord_last_flushed (s : State) (c : Chan) (r : Record)
    (last : (s.log (s.ch c).domain).records.length = 15) (f : (s.ch c).flushCount ≠ 0) :
    s.logRecord c r =
      (s.modLog (s.ch c).domain fun l => { l with records := l.records ++ [r], waiting := l.waiting ++ [c] }).modCh c
        fun ch =>
          { ch with
            state := .logging, run := Run.blank, held := some (flushedRecord c (s.ch c).flushCount),
            afterLogging := if r.flags.halted then .halt else .idle, flushCount := 0 } := by
  have hroom : (s.log (s.ch c).domain).hasRoom = true := decide_eq_true (show _ < 16 by omega)
  have hroom2 : ((s.log (s.ch c).domain).append r).hasRoom = false :=
    decide_eq_false (show ¬ _ < 16 by simp [Log.append]; omega)
  unfold State.logRecord State.offer
  simp only [State.ch_modCh_same, State.log_modCh, hroom, if_true, State.modLog_modCh]
  unfold State.afterAccepted
  rw [if_neg (by simpa using f)]
  unfold State.produceFlushed State.offerFlushed
  simp only [State.modCh_modCh, State.modLog_modCh, State.ch_modCh_same, State.log_modCh, State.ch_modLog,
    State.log_modLog_same, hroom2]
  rw [if_neg (by simp)]
  simp [State.holdRecord, State.modLog_modCh, Log.append]

/-- A full log refuses the record: the channel holds it in LOGGING at the tail of the waiting list. -/
theorem State.logRecord_full (s : State) (c : Chan) (r : Record)
    (full : ¬ (s.log (s.ch c).domain).records.length < 16) :
    s.logRecord c r =
      (s.modLog (s.ch c).domain fun l => { l with waiting := l.waiting ++ [c] }).modCh c fun ch =>
        { ch with
          state := .logging, run := Run.blank, held := some r,
          afterLogging := if r.flags.halted then .halt else .idle } := by
  have hroom : (s.log (s.ch c).domain).hasRoom = false := decide_eq_false full
  unfold State.logRecord State.offer
  simp only [State.ch_modCh_same, State.log_modCh, hroom, State.modLog_modCh]
  rw [if_neg (by simp)]
  simp [State.holdRecord, State.modLog_modCh]

/-! ### Answers and expiries of a channel's transaction (R4, R5, R8) -/

/-- A matching answer to the channel's transaction is delivered to it. -/
theorem exec_answer_channel (s : State) (c : Chan) (k : Kind) (q : BitVec 8) (code : AnswerCode) (o : Option Word)
    (hr : s.resetAsserted = false) (ho : (s.port c).outstanding = some { kind := k, seq := q, issuer := .channel })
    (hm : code = .accept → k.deliversWord = true → o ≠ none) :
    exec (.answer c code k.code q o) s =
      .next ((s.endTransaction c).channelResult c
        (({ kind := k, seq := q, issuer := .channel } : Transaction).resultOf code o)).settle := by
  have hmatch : ({ kind := k, seq := q, issuer := .channel } : Transaction).matchedBy code k.code q o = true := by
    cases code with
    | refuse => simp [Transaction.matchedBy]
    | accept =>
      cases hk : k.deliversWord with
      | false => simp [Transaction.matchedBy, hk]
      | true =>
        cases o with
        | none => exact absurd rfl (hm rfl hk)
        | some w => simp [Transaction.matchedBy]
  simp only [exec, execAnswer]
  rw [if_neg (by simp [hr]), ho]
  dsimp only
  rw [if_pos hmatch]
  rfl

/-- A due answer timer of the channel's transaction delivers NO_ANSWER to it. -/
theorem exec_noAnswer_channel (s : State) (c : Chan) (k : Kind) (q : BitVec 8)
    (ho : (s.port c).outstanding = some { kind := k, seq := q, issuer := .channel }) (hd : (s.port c).timer = .due) :
    exec (.noAnswer c) s = .next ((s.endTransaction c).channelResult c .noAnswer).settle := by
  simp only [exec, execNoAnswer]
  rw [ho]
  dsimp only
  rw [if_pos hd]
  rfl

@[simp] theorem State.ch_endTransaction (s : State) (c x : Chan) : (s.endTransaction c).ch x = s.ch x := rfl
@[simp] theorem State.outstanding_endTransaction (s : State) (c : Chan) :
    ((s.endTransaction c).port c).outstanding = none := by simp [State.endTransaction]
@[simp] theorem State.hail_endTransaction (s : State) (c : Chan) :
    ((s.endTransaction c).port c).hail = (s.port c).hail := by simp [State.endTransaction]
@[simp] theorem State.ready_endTransaction (s : State) (c : Chan) :
    ((s.endTransaction c).port c).ready = (s.port c).ready := by simp [State.endTransaction]
@[simp] theorem State.hubState_endTransaction (s : State) (c : Chan) : (s.endTransaction c).hubState = s.hubState := rfl
@[simp] theorem State.mem_endTransaction (s : State) (c x : Chan) : (s.endTransaction c).mem x = s.mem x := rfl
@[simp] theorem State.log_endTransaction (s : State) (c : Chan) (d : Dom) : (s.endTransaction c).log d = s.log d := rfl

/-- A channel's granted access completes. -/
theorem exec_storeAccessDone_channel (s : State) (c : Chan) (a : Access) (w : Bool) (h : s.granted = some (.channel c a w)) :
    exec .storeAccessDone s = .next (State.storeChannelDone { s with granted := none } c a w).settle := by
  unfold exec execStoreAccessDone
  dsimp only
  conv_lhs => rw [h]

/-! ### Faults (R71, R73, R74, R75, R80) -/

/-- What a fault leaves of the channel. -/
def Channel.faulting (ch : Channel) (o : RunOutcome) (step : RunStep) (a : Word) : Channel :=
  { ch with
    stopPending := false, readyTimer := .stopped, paceTimer := .stopped,
    run := { ch.run with
      outWord := none, outcome := some o, step := step, faultAddr := a,
      flags := { ch.run.flags with halted := true, stopAlso := ch.run.flags.stopAlso || ch.stopPending } } }

theorem State.setFault_eq (s : State) (c : Chan) (o : RunOutcome) (step : RunStep) (a : Word) :
    s.setFault c o step a = s.modCh c fun ch => ch.faulting o step a := by
  unfold State.setFault
  simp only [State.modRun_eq, State.modCh_modCh]
  apply State.modCh_congr
  simp [Channel.faulting, Channel.endEarly]

/-- A fault whose run has used the port closes ABORT. -/
theorem State.faultAbort_used (s : State) (c : Chan) (o : RunOutcome) (step : RunStep) (a : Word)
    (hp : (s.ch c).run.portUsed = true) (ho : (s.port c).outstanding = none) :
    s.faultAbort c o step a =
      State.sends (s.modCh c fun ch => { ch.faulting o step a with state := .closing }) c .close (.close .abort) := by
  unfold State.faultAbort
  rw [State.setFault_eq s c o step a,
    State.enterClosing_used _ _ _ (by simpa [Channel.faulting] using hp) (by simpa using ho), State.modCh_modCh]
  refine congrArg (fun x => State.sends x c _ _) ?_
  apply State.modCh_congr
  simp [Channel.faulting, hp]

/-- A channel that enters WRITEBACK asks for the write of words 5 to 7. -/
theorem State.enterWriteback_eq (s : State) (c : Chan) :
    s.enterWriteback c = (s.modCh c fun ch => { ch with state := .writeback }).request c (postedSpace (s.ch c).current)
      { addr := wordAddr (s.ch c).run.descAddr 5, body := .write (s.ch c).writebackWords } := rfl

/-- Entering WRITEBACK with the channel changed: the words written are those of the changed channel. -/
theorem State.enterWriteback_modCh (s : State) (c : Chan) (f : Channel → Channel) :
    (s.modCh c f).enterWriteback c =
      (s.modCh c fun ch => { f ch with state := .writeback }).request c (postedSpace (f (s.ch c)).current)
        { addr := wordAddr (f (s.ch c)).run.descAddr 5, body := .write (f (s.ch c)).writebackWords } := by
  rw [State.enterWriteback_eq]
  simp only [State.modCh_modCh, State.ch_modCh_same]

/-- A fault before the run's first transaction sends no CLOSE and goes straight to the write-back. -/
theorem State.faultAbort_unused (s : State) (c : Chan) (o : RunOutcome) (step : RunStep) (a : Word)
    (hp : (s.ch c).run.portUsed = false) :
    s.faultAbort c o step a =
      (s.modCh c fun ch => { ch.faulting o step a with state := .writeback }).request c (postedSpace (s.ch c).current)
        { addr := wordAddr (s.ch c).run.descAddr 5, body := .write ((s.ch c).faulting o step a).writebackWords } := by
  unfold State.faultAbort
  rw [State.setFault_eq s c o step a, State.enterClosing_unused _ _ _ (by simpa [Channel.faulting] using hp), State.modCh_modCh,
    State.enterWriteback_modCh]
  rfl

/-- The abort sequence after NO_ANSWER. -/
theorem State.faultNoAnswer_eq (s : State) (c : Chan) (step : RunStep) :
    s.faultNoAnswer c step =
      (((s.endTransaction c).emit (.clear c)).modCh c fun ch =>
        { ch.faulting .noAnswer step 0 with state := .writeback }).request c (postedSpace (s.ch c).current)
        { addr := wordAddr (s.ch c).run.descAddr 5,
          body := .write ((s.ch c).faulting .noAnswer step 0).writebackWords } := by
  unfold State.faultNoAnswer
  rw [State.setFault_eq]
  exact State.enterWriteback_modCh ((s.endTransaction c).emit (.clear c)) c fun ch => ch.faulting .noAnswer step 0

/-- A fault in LOADING after the descriptor was read. -/
theorem State.faultLoaded_eq (s : State) (c : Chan) (o : RunOutcome) (a : Word) :
    s.faultLoaded c o a =
      (s.modCh c fun ch => { ch.faulting o .load a with state := .writeback }).request c (postedSpace (s.ch c).current)
        { addr := wordAddr (s.ch c).run.descAddr 5, body := .write ((s.ch c).faulting o .load a).writebackWords } := by
  unfold State.faultLoaded
  rw [State.setFault_eq]
  exact State.enterWriteback_modCh s c fun ch => ch.faulting o .load a

/-! ### The stop ending and the quiesce ending (R41, R70) -/

/-- A boundary at which the run ends: STOPPED with the stop-pending mark set, and otherwise QUIESCED in a QUIESCING hub. -/
theorem State.boundary_ends (s : State) (c : Chan) (o : RunOutcome) (go : State → State)
    (h : ((s.ch c).stopPending = true ∧ o = .stopped) ∨
      ((s.ch c).stopPending = false ∧ s.hubState = .quiescing ∧ o = .quiesced)) :
    s.boundary c go = s.stopEnding c o := by
  rcases h with ⟨h, rfl⟩ | ⟨h, q, rfl⟩
  · exact s.boundary_stop c go h
  · exact s.boundary_quiesce c go h q

/-- What the stop ending and the quiesce ending leave of the channel. -/
def Channel.endingEarly (ch : Channel) (o : RunOutcome) : Channel :=
  { ch with
    stopPending := false, readyTimer := .stopped, paceTimer := .stopped,
    run := { ch.run with outWord := none, outcome := some o } }

theorem State.stopEnding_eq (s : State) (c : Chan) (o : RunOutcome) :
    s.stopEnding c o = (s.modCh c fun ch => ch.endingEarly o).enterClosing c .abort := by
  unfold State.stopEnding
  simp only [State.modRun_eq, State.modCh_modCh]
  rfl

/-- A run that has used the port ends by a CLOSE ABORT. -/
theorem State.stopEnding_used (s : State) (c : Chan) (o : RunOutcome) (hp : (s.ch c).run.portUsed = true)
    (ho : (s.port c).outstanding = none) :
    s.stopEnding c o =
      State.sends (s.modCh c fun ch => { ch.endingEarly o with state := .closing }) c .close (.close .abort) := by
  rw [State.stopEnding_eq, State.enterClosing_used _ _ _ (by simpa [Channel.endingEarly] using hp) (by simpa using ho),
    State.modCh_modCh]
  refine congrArg (fun x => State.sends x c _ _) ?_
  apply State.modCh_congr
  simp [Channel.endingEarly, hp]

/-- A run that has not used the port ends by its write-back alone. -/
theorem State.stopEnding_unused (s : State) (c : Chan) (o : RunOutcome) (hp : (s.ch c).run.portUsed = false) :
    s.stopEnding c o =
      (s.modCh c fun ch => { ch.endingEarly o with state := .writeback }).request c (postedSpace (s.ch c).current)
        { addr := wordAddr (s.ch c).run.descAddr 5, body := .write ((s.ch c).endingEarly o).writebackWords } := by
  rw [State.stopEnding_eq, State.enterClosing_unused _ _ _ (by simpa [Channel.endingEarly] using hp), State.modCh_modCh,
    State.enterWriteback_modCh]
  rfl

/-! ### A good descriptor (R45) -/

/-- A snapshot that passes the format check and the range checks is loaded, and the channel reaches its boundary. -/
theorem State.descriptorRead_good (s : State) (c : Chan) (ws : List Word) (d : Snapshot) (hd : Snapshot.ofWords ws = d)
    (hf : d.formatOk = true)
    (hl : d.leads ≠ 0 → s.rangeOk (s.ch c).run.poster d.leadSpace d.w2 d.leads.toNat = true)
    (hb : d.hasData = true → s.rangeOk (s.ch c).run.poster d.dataSpace d.w3 d.count.toNat = true) :
    s.descriptorRead c ws =
      (s.modCh c fun ch =>
        { ch with run := { ch.run with
          snapshot := d, leadAddr := s.translate ch.run.poster d.leadSpace d.w2,
          bufAddr := s.translate ch.run.poster d.dataSpace d.w3 } }).boundary c fun s => s.leaveLoading c := by
  unfold State.descriptorRead
  rw [hd]
  dsimp only
  rw [if_pos hf]
  unfold State.checkRanges
  simp only [State.modRun_eq, State.modCh_modCh, State.ch_modCh_same]
  rw [if_neg, if_neg]
  · refine congrArg (fun x => State.boundary x c _) ?_
    exact State.modCh_congr _ _ rfl
  · rintro ⟨h1, h2⟩
    exact absurd ((hb h1).symm.trans h2) (by simp)
  · rintro ⟨h1, h2⟩
    exact absurd ((hl h1).symm.trans h2) (by simp)

/-! ### The end of the data phase and of the later phases (R57, R59) -/

/-- The data phase ends and, with ASK 0, the run closes NORMAL. -/
theorem State.endData_close (s : State) (c : Chan) (hp : (s.ch c).run.portUsed = true)
    (ho : (s.port c).outstanding = none) (ha : (s.ch c).run.snapshot.ask = false) :
    s.endData c = State.sends
      (s.modCh c fun ch => { ch with state := .closing, run := { ch.run with outcome := some .done, portUsed := true } }) c
      .close (.close .normal) := by
  unfold State.endData State.afterPhases
  rw [if_neg (by simp [ha]), State.enterClosing_used _ _ _ (by simpa using hp) (by simpa using ho)]
  simp

/-! ### The direct path (R149) -/

theorem State.directCommand_accepts (s : State) (p : Chan) (n : BitVec 3) (k : Kind) (last : Bool) (code : CloseCode)
    (hk : kindOfCode n = some k) (hb : s.direct.result ≠ .busy) (hq : ¬ (s.hubState = .quiescing ∨ s.hubState = .quiesced))
    (hc : ¬ ((s.ch p).detached = false ∧ (s.ch p).state ≠ .idle ∧ (s.ch p).state ≠ .halted)) :
    s.directCommand p n last code = s.acceptDirect p k last code := by
  unfold State.directCommand
  rw [if_neg hb, hk]
  dsimp only
  rw [if_neg hq, if_neg hc]

end Sys2Proof.Machine
end

