-- ==== Sys2Proof/Laws/Screen.lean ====
section
/-! SUPPORT. The Status Screen: which entry acts on a captured word, and the whole effect of a capture. -/

namespace Sys2Proof.Machine

/-- The acting entry is the lowest-numbered that matches (R138). -/
theorem State.actingEntry_eq_some (s : State) (c : Chan) (w : Word) (k : Fin 8) :
    s.actingEntry c w = some k ↔
      (s.screen[k]).matches c w = true ∧ ∀ j < k, (s.screen[j]).matches c w = false := by
  unfold State.actingEntry
  have hr : allChans.Pairwise (fun a b => id a < id b) := by decide
  have hm : ∀ x : Fin 8, x ∈ allChans := by decide
  rw [find_eq_some_of_rising (f := id) _ hr]
  constructor
  · rintro ⟨_, h1, h2⟩
    refine ⟨h1, fun j hj => ?_⟩
    by_contra hne
    have := h2 j (hm j) (by simpa using hne)
    exact absurd this (not_le.mpr hj)
  · rintro ⟨h1, h2⟩
    refine ⟨hm k, h1, fun x _ hx => ?_⟩
    by_contra hlt
    have := h2 x (not_le.mp hlt)
    simp_all

/-- A word that no entry matches leaves only itself in the run. -/
theorem State.capture_none (s : State) (c : Chan) (w : Word) (h : s.actingEntry c w = none) :
    s.capture c w = s.modCh c fun ch =>
      { ch with run := { ch.run with status := w, flags := { ch.run.flags with statusPresent := true } } } := by
  unfold State.capture
  rw [h]
  simp

/-- What the acting entry does beside the channel: HITS, and for an EVENT the SCREEN source and SCR_LAST_HIT. -/
def State.screenHit (s : State) (c : Chan) (k : Fin 8) : State :=
  { s with
    screen := s.screen.set k.val { s.screen[k] with hits := satInc (s.screen[k]).hits },
    events := { s.events with screen := s.events.screen || (s.screen[k]).action == 1 },
    lastHit := if (s.screen[k]).action = 1 then some { channel := c, entry := k } else s.lastHit }

/-- A word on which an entry acts: what the entry does beside the channel, and what the run keeps of it. -/
theorem State.capture_acts (s : State) (c : Chan) (w : Word) (k : Fin 8) (ha : s.actingEntry c w = some k) :
    s.capture c w = (s.screenHit c k).modCh c fun ch =>
      { ch with
        run := { ch.run with
          status := w, screenIndex := k,
          flags := { ch.run.flags with
            statusPresent := true, screenMatch := true,
            halted := ch.run.flags.halted || (s.screen[k]).action == 2 } } } := by
  unfold State.capture
  dsimp only
  rw [ha]
  dsimp only
  unfold State.entryActs State.screenHit
  dsimp only
  by_cases h : (s.screen[k]).action = 1
  · have h' : (s.screen[k.val]).action = 1 := h
    simp only [State.modRun_eq, State.screen_modCh, h', if_true]
    simp [State.modCh, Flags.screened, h']
  · have h' : ¬ (s.screen[k.val]).action = 1 := h
    have h3 : ¬ (s.screen[k.val]).action = 1#2 := h
    have h2 : ((s.screen[k.val]).action == 1#2) = false := beq_eq_false_iff_ne.mpr h3
    simp only [State.modRun_eq, State.screen_modCh, h', if_false]
    simp [State.modCh, Flags.screened, h3, h2]

@[simp] theorem State.ch_screenHit (s : State) (c x : Chan) (k : Fin 8) : (s.screenHit c k).ch x = s.ch x := rfl
@[simp] theorem State.port_screenHit (s : State) (c x : Chan) (k : Fin 8) : (s.screenHit c k).port x = s.port x := rfl
@[simp] theorem State.log_screenHit (s : State) (c : Chan) (k : Fin 8) (d : Dom) :
    (s.screenHit c k).log d = s.log d := rfl

end Sys2Proof.Machine
end

