-- ==== Sys2Proof/Laws/Settle.lean ====
section
/-! SUPPORT. What follows within a step: each part of `State.settle`, what it changes and what it leaves. -/

namespace Sys2Proof.Machine

/-! ### Pending changes -/

theorem State.ch_pendingEffects (s : State) (c : Chan) :
    s.pendingEffects.ch c = (s.ch c).domainEffect.detachEffect := by
  simp [State.pendingEffects, State.ch]

/-- What the pending changes of a channel come to. -/
theorem Channel.pendingEffects_eq (ch : Channel) : ch.domainEffect.detachEffect =
    { ch with
      domain := if ch.empty then ch.pendingDomain.getD ch.domain else ch.domain,
      pendingDomain := if ch.empty then none else ch.pendingDomain,
      detached := ch.detached || (ch.detachPending && (ch.state == .idle || ch.state == .halted)),
      detachPending := ch.detachPending && ch.state != .idle && ch.state != .halted } := by
  rcases ch with ⟨st, armed, sp, lc, ps, q, fc, cur, reps, words, run, rt, pt, held, al, dom, pd, det, dp, at', rt', aa⟩
  unfold Channel.domainEffect Channel.detachEffect Channel.empty
  cases pd <;> cases dp <;> cases st <;> cases q <;> cases held <;> simp

/-! ### Grants -/

/-- The arbiter's part of the state; a grant reads and writes nothing else. -/
theorem State.grant_eq (s : State) :
    s.grant = { s with granted := s.grant.granted, hostWaiting := s.grant.hostWaiting, hostRun := s.grant.hostRun,
                       storeRequests := s.grant.storeRequests, lastGranted := s.grant.lastGranted } := by
  unfold State.grant State.grantHost State.grantChannel
  repeat' split
  all_goals rfl

theorem State.grantHost_pendingEffects (s : State) (n : Fin 3) :
    s.pendingEffects.grantHost n = { s.grantHost n with channels := s.pendingEffects.channels } := by
  unfold State.grantHost
  rw [show s.pendingEffects.hostWaiting = s.hostWaiting from rfl]
  cases s.hostWaiting <;> rfl

theorem State.grantChannel_pendingEffects (s : State) :
    s.pendingEffects.grantChannel = { s.grantChannel with channels := s.pendingEffects.channels } := by
  unfold State.grantChannel
  rw [show (nextAfter s.pendingEffects.lastGranted fun c => (s.pendingEffects.storeReq c).isSome) =
    nextAfter s.lastGranted fun c => (s.storeReq c).isSome from rfl]
  cases nextAfter s.lastGranted fun c => (s.storeReq c).isSome with
  | none => rfl
  | some c =>
    dsimp only
    rw [show s.pendingEffects.storeReq c = s.storeReq c from rfl]
    cases s.storeReq c <;> rfl

/-- Pending changes of the channels do not change what the arbiter grants. -/
theorem State.grant_pendingEffects (s : State) :
    s.pendingEffects.grant = { s.grant with channels := s.pendingEffects.channels } := by
  unfold State.grant
  rw [show s.pendingEffects.granted = s.granted from rfl, show s.pendingEffects.hostWaiting = s.hostWaiting from rfl,
    show s.pendingEffects.channelWaits = s.channelWaits from rfl, show s.pendingEffects.hostRun = s.hostRun from rfl,
    State.grantHost_pendingEffects, State.grantHost_pendingEffects, State.grantChannel_pendingEffects]
  repeat' split
  all_goals rfl

/-! ### Presentation -/

theorem State.present_eq (s : State) : s.present = { s with presented := s.present.presented } := by
  unfold State.present
  split
  · split <;> rfl
  · rfl

/-- What is presented depends only on the slots, the service pointer and what was presented. -/
theorem State.presented_present (s u : State) (h1 : u.slots = s.slots) (h2 : u.servicePointer = s.servicePointer)
    (h3 : u.presented = s.presented) : u.present.presented = s.present.presented := by
  have hm : ∀ c, u.mem c = s.mem c := fun c => by unfold State.mem; rw [h1]
  unfold State.present
  rw [h3]
  cases hp : s.presented with
  | none => simp only [hm, h2]
  | some c =>
    dsimp only
    rw [hm]
    split
    · rw [h3, hp]
    · simp only [hm, h2]

/-! ### The completion of quiesce -/

theorem State.atRest_iff (s : State) : s.atRest = true ↔ (∀ c, s.settled c = true) ∧ s.direct.result ≠ .busy := by
  unfold State.atRest
  rw [Bool.and_eq_true, allChans_all]
  simp

theorem State.completeQuiesce_eq (s : State) :
    s.completeQuiesce =
      { s with hubState := if s.hubState = .quiescing ∧ s.atRest = true then .quiesced else s.hubState } := by
  unfold State.completeQuiesce
  split <;> rfl

/-- Whether a channel is settled depends only on its state and on what it holds. -/
theorem State.settled_congr (s u : State) (c : Chan) (h1 : (u.ch c).state = (s.ch c).state)
    (h2 : (u.ch c).held = (s.ch c).held) : u.settled c = s.settled c := by
  unfold State.settled
  rw [h1, h2]

/-! ### The whole -/

/-- All that `State.settle` does. -/
theorem State.settle_eq (s : State) :
    s.settle =
      { s with
        channels := s.pendingEffects.channels, granted := s.grant.granted, hostWaiting := s.grant.hostWaiting,
        hostRun := s.grant.hostRun, storeRequests := s.grant.storeRequests, lastGranted := s.grant.lastGranted,
        presented := s.present.presented,
        hubState := if s.hubState = .quiescing ∧ s.atRest = true then .quiesced else s.hubState } := by
  have e1 : s.pendingEffects.grant =
      { s with
        channels := s.pendingEffects.channels, granted := s.grant.granted, hostWaiting := s.grant.hostWaiting,
        hostRun := s.grant.hostRun, storeRequests := s.grant.storeRequests, lastGranted := s.grant.lastGranted } := by
    rw [State.grant_pendingEffects]
    conv_lhs => rw [State.grant_eq s]
  have e3 : ∀ u : State, u.channels = s.pendingEffects.channels → u.direct = s.direct → u.atRest = s.atRest := by
    intro u h1 h2
    have hc : ∀ c, u.settled c = s.settled c := by
      intro c
      have : u.ch c = s.pendingEffects.ch c := by unfold State.ch; rw [h1]
      apply State.settled_congr <;> rw [this, State.ch_pendingEffects, Channel.pendingEffects_eq]
    unfold State.atRest
    rw [h2]
    simp only [hc]
  unfold State.settle
  rw [e1]
  generalize hu : ({ s with
        channels := s.pendingEffects.channels, granted := s.grant.granted, hostWaiting := s.grant.hostWaiting,
        hostRun := s.grant.hostRun, storeRequests := s.grant.storeRequests,
        lastGranted := s.grant.lastGranted } : State) = u
  have e2 : u.present.presented = s.present.presented := by
    subst hu; exact State.presented_present _ _ rfl rfl rfl
  rw [State.completeQuiesce_eq, State.present_eq, e3 _ (by subst hu; rfl) (by subst hu; rfl), e2]
  subst hu
  rfl

/-- `State.settle` leaves every port alone. -/
@[simp] theorem State.port_settle (s : State) (c : Chan) : s.settle.port c = s.port c := by
  rw [State.settle_eq]
  rfl

/-- The channels after `State.settle`. -/
theorem State.ch_settle (s : State) (c : Chan) : s.settle.ch c = (s.ch c).domainEffect.detachEffect := by
  rw [State.settle_eq, ← State.ch_pendingEffects]
  rfl

end Sys2Proof.Machine
end

