-- ==== Sys2Proof/Laws/Store.lean ====
section
/-! SUPPORT. The staging store: every write keeps its canonical form, and a read after a write gives the word written at the
number written and what was there before at every other. -/

namespace Sys2Proof.Machine

/-- A store that is canonical from a number on is canonical from any lower one on. -/
theorem Store.wfFrom_of_le : ∀ (m : Store) (lo lo' : Nat), lo' ≤ lo → Store.wfFrom lo m = true → Store.wfFrom lo' m = true
  | [], _, _, _, _ => rfl
  | (b, y) :: m, lo, lo', h, w => by
    simp only [Store.wfFrom, Bool.and_eq_true, decide_eq_true_eq] at w ⊢
    exact ⟨⟨⟨le_trans h w.1.1.1, w.1.1.2⟩, w.1.2⟩, w.2⟩

/-- A canonical store holds nothing below its least number. -/
theorem Store.get_of_lt : ∀ (m : Store) (lo a : Nat), Store.wfFrom lo m = true → a < lo → m.get a = StoreWord.blank
  | [], _, _, _, _ => rfl
  | (b, y) :: m, lo, a, w, h => by
    simp only [Store.wfFrom, Bool.and_eq_true, decide_eq_true_eq] at w
    unfold Store.get
    rw [if_neg (by omega)]
    exact Store.get_of_lt m (b + 1) a w.2 (by omega)

theorem Store.wfFrom_put : ∀ (m : Store) (lo a : Nat) (x : StoreWord), Store.wfFrom lo m = true → lo ≤ a →
    a < Config.storeWords → Store.wfFrom lo (m.put a x) = true
  | [], lo, a, x, _, h, ha => by
    unfold Store.put
    split
    · rfl
    · simp [Store.wfFrom, *]
  | (b, y) :: m, lo, a, x, w, h, ha => by
    have w' := w
    simp only [Store.wfFrom, Bool.and_eq_true, decide_eq_true_eq] at w
    unfold Store.put
    split
    · split
      · exact w'
      · simp only [Store.wfFrom, Bool.and_eq_true, decide_eq_true_eq]
        exact ⟨⟨⟨h, ha⟩, by assumption⟩, ⟨⟨⟨by omega, w.1.1.2⟩, w.1.2⟩, w.2⟩⟩
    · split
      · split
        · exact Store.wfFrom_of_le m (b + 1) lo (by omega) w.2
        · simp only [Store.wfFrom, Bool.and_eq_true, decide_eq_true_eq]
          exact ⟨⟨⟨h, ha⟩, by assumption⟩, by subst a; exact w.2⟩
      · simp only [Store.wfFrom, Bool.and_eq_true, decide_eq_true_eq]
        exact ⟨⟨⟨w.1.1.1, w.1.1.2⟩, w.1.2⟩, Store.wfFrom_put m (b + 1) a x w.2 (by omega) ha⟩

theorem Store.get_put_from : ∀ (m : Store) (lo a : Nat) (x : StoreWord), Store.wfFrom lo m = true → ∀ b,
    (m.put a x).get b = if b = a then x else m.get b
  | [], lo, a, x, _, b => by
    unfold Store.put
    split
    · simp_all [Store.get]
    · simp [Store.get]
  | (k, y) :: m, lo, a, x, w, b => by
    simp only [Store.wfFrom, Bool.and_eq_true, decide_eq_true_eq] at w
    unfold Store.put
    split
    · split
      · split
        · subst b; subst x
          unfold Store.get
          rw [if_neg (by omega)]
          exact Store.get_of_lt m (k + 1) a w.2 (by omega)
        · rfl
      · conv_lhs => unfold Store.get
    · split
      · split
        · subst a; subst x
          conv_rhs => unfold Store.get
          by_cases h : b = k
          · subst h; simp; exact Store.get_of_lt m (b + 1) b w.2 (by omega)
          · simp [h]
        · subst a
          by_cases h : b = k <;> simp [Store.get, h]
      · have ih := Store.get_put_from m (k + 1) a x w.2 b
        by_cases h : b = k
        · subst h; simp [Store.get]; omega
        · simp [Store.get, h, ih]

/-! ### The operations of R129 on a canonical store -/

/-- A write of one word keeps the canonical form. -/
theorem Store.wf_put (m : Store) (a : Nat) (x : StoreWord) (h : m.wf = true) (ha : a < 8192) : (m.put a x).wf = true :=
  Store.wfFrom_put m 0 a x h (Nat.zero_le _) ha

/-- A read after a write of one word. -/
theorem Store.get_put (m : Store) (a : Nat) (x : StoreWord) (h : m.wf = true) (b : Nat) :
    (m.put a x).get b = if b = a then x else m.get b := Store.get_put_from m 0 a x h b

/-- A write of several words keeps the canonical form. -/
theorem Store.wf_writeWords (m : Store) (addr : Word) (ws : List Word) (h : m.wf = true) :
    (m.writeWords addr ws).wf = true := by
  induction ws generalizing m addr with
  | nil => exact h
  | cons w ws ih => exact ih _ _ (Store.wf_put m _ _ h (Nat.mod_lt _ (by decide)))

/-- What a completed access leaves in the store is canonical. -/
theorem Access.wf_storeEffect (a : Access) (m : Store) (h : m.wf = true) : (a.storeEffect m).wf = true := by
  unfold Access.storeEffect
  split
  · exact h
  · exact Store.wf_writeWords m _ _ h

/-- The store after reset has the canonical form. -/
theorem State.reset_store_wf : State.reset.store.wf = true := rfl

end Sys2Proof.Machine
end

