-- ==== Sys2Proof/Tests/Slice0.lean ====
section
/-! SUPPORT. Tests: ill-formed commands that WellFormed refuses, single steps with the results that the spec's text and examples
give, and for every statement with hypotheses concrete states that meet them. -/

namespace Sys2Proof.Tests

open Sys2Proof.Machine

set_option Elab.async false

/-! ### Small states -/

/-- An OPERATIONAL hub. -/
def op : State := { State.reset with hubState := .operational }

/-- An OPERATIONAL hub, one channel changed. -/
def opCh (c : Chan) (f : Channel → Channel) : State := op.modCh c f

/-- A channel in a state with a descriptor, its port used. -/
def inRun (c : Chan) (st : ChState) (d : Snapshot) : State :=
  opCh c fun ch => { ch with state := st, run := { ch.run with snapshot := d, portUsed := true, remaining := 2 } }

/-- A channel in such a state with its own transaction outstanding and the answer timer due. -/
def awaiting (c : Chan) (st : ChState) (d : Snapshot) (k : Kind) : State :=
  (inRun c st d).modPort c fun p =>
    { p with outstanding := some { kind := k, seq := 5, issuer := .channel }, timer := .due }

/-- A channel in such a state with an access outstanding at the memory port. -/
def accessing (c : Chan) (st : ChState) (d : Snapshot) (a : Access) : State :=
  (inRun c st d).modMem c fun m => { m with slot := .outstanding a 9 .due }

/-- An output run of two words. -/
def outRun : Snapshot := { w0 := 0x10, w1 := 2, w2 := 0, w3 := 0x100, w4 := 0 }

/-- An input run of two words. -/
def inpRun : Snapshot := { w0 := 0x20, w1 := 2, w2 := 0, w3 := 0x100, w4 := 0 }

/-- What a command leaves, as seen through `f`. -/
def after {α : Type} (i : Instr) (s : State) (f : State → α) : Option α :=
  match exec i s with
  | .next t => some (f t)
  | _ => none

/-! ### Commands that are not the row they are named after -/

/-- R85: 7 is ATTACH. -/
theorem test_wellFormed_chCommand : (Instr.chCommandUnassigned 0 0 7).wellFormed = false := by decide
/-- R177: 3 is RESUME_ALL. -/
theorem test_wellFormed_hubCommand : (Instr.hubCommandUnassigned 0 3).wellFormed = false := by decide
/-- R149: KIND 6 is CLOSE. -/
theorem test_wellFormed_kind : (Instr.directInvalidKind 0 0 6).wellFormed = false := by decide
/-- R187: CH_POST of channel 7 has a row of its own. -/
theorem test_wellFormed_registerWrite : (Instr.registerWrite 0 .word 0x788 0).wellFormed = false := by decide
/-- R104: a tenant's own log window never violates. -/
theorem test_wellFormed_violation : (Instr.registerAccessViolation 3 0x8C8 .read).wellFormed = false := by decide
/-- Every other operand is well formed as it stands; unassigned values and offsets are. -/
theorem test_wellFormed_others :
    ([.chCommandUnassigned 0 0 8, .hubCommandUnassigned 0 0, .directInvalidKind 0 0 7, .registerWrite 0 .word 0x410 1,
      .registerAccessViolation 1 0x100 .read, .tick] : List Instr).all Instr.wellFormed = true := by decide

/-- No word spells a command, and the fetch word changes nothing (the table gives no row any bits). -/
theorem test_decodeTableWord : decodeTableWord 16 0xFFFF = none := by decide

/-! ### Single steps with results from the spec -/

/-- Section 11.8: the state after reset idles on its empty queue. -/
theorem test_idle : step State.reset = .next State.reset := by rfl
/-- R171: a TICK_DIVIDER of 0 acts as 1. -/
theorem test_tick_zero_divider : after .tick { op with tickDivider := 0 } (·.tickPeriod) = some 1 := by decide +kernel
/-- R32: bit 1 of a posted value is not 0. -/
theorem test_post_misaligned : after (.post 0 2 0x2002) op (fun t => (t.ch 2).postStatus) = some .misaligned := by decide +kernel
/-- R112: eight words end exactly at the end of the store. -/
theorem test_post_last_place : after (.post 0 2 0x7FE1) op (fun t => (t.ch 2).queue.length) = some 1 := by decide +kernel
/-- R42: START sets the armed flag. -/
theorem test_start : after (.start 0 4) op (fun t => (t.ch 4).armed) = some true := by decide +kernel
/-- R82: RESUME outside HALTED is IGNORED. -/
theorem test_resume_idle : after (.resume 0 4) op (fun t => (t.ch 4).lastCmd) = some .ignored := by decide +kernel
/-- R86: DETACH by the owning tenant is REJECTED_PRIVILEGE. -/
theorem test_detach_tenant :
    after (.detach 2 7) (opCh 7 fun ch => { ch with domain := 2 }) (fun t => ((t.ch 7).lastCmd, t.trap.isSome)) =
      some (.rejectedPrivilege, true) := by decide +kernel
/-- R4: the sequence count of the answer differs. -/
theorem test_answer_stray :
    after (.answer 3 .accept 1 6 none) (awaiting 3 .lead outRun .lead) (fun t => (t.port 3).stray) = some true := by decide +kernel
/-- R46: a REFUSE of a PUT with TOLERATE 0 sends CLOSE(ABORT), code 1. -/
theorem test_refused_put :
    after (.answer 3 .refuse 3 5 none) (awaiting 3 .data outRun .put) (fun t => t.outputs) =
      some [.transaction 3 .close 0 (.close .abort)] := by decide +kernel
/-- R8: no answer to a PUT: CLEAR, and no CLOSE (R74). -/
theorem test_no_answer :
    after (.noAnswer 3) (awaiting 3 .data outRun .put) (fun t => (t.outputs, (t.ch 3).state)) =
      some ([.clear 3], .writeback) := by decide +kernel
/-- R134: bytes and halfwords are not acted on. -/
theorem test_aperture_half :
    after (.apertureWrite 0 .half 0x10 1) op (fun t => t.outputs) = some [.hostResponse 0 0 false] := by decide +kernel
/-- R132: a lone host access is granted at once. -/
theorem test_aperture_granted :
    after (.apertureWrite 0 .word 0x7FFC 1) op (fun t => t.granted) =
      some (some (.host { domain := 0, word := 8191, access := .write 1 })) := by decide +kernel
/-- R133, R134: the granted write lands with its check bit. -/
theorem test_store_write :
    after .storeAccessDone { op with granted := some (.host { domain := 0, word := 8191, access := .write 7 }) }
      (fun t => t.store.get 8191) = some { data := 7, check := true } := by decide +kernel
/-- R150, Example 9-1 in its first command: a direct ASK is sent. -/
theorem test_direct_ask :
    after (.directAsk 0 6) op (fun t => (t.outputs, t.direct.result)) =
      some ([.transaction 6 .ask 0 .none], .busy) := by decide +kernel
/-- R149: KIND 7 is rejected. -/
theorem test_direct_kind : after (.directInvalidKind 0 6 7) op (fun t => t.direct.result) = some .rejectedKind := by decide +kernel
/-- R177: RESUME_ALL in OPERATIONAL is REJECTED. -/
theorem test_resumeAll : after (.resumeAll 0) op (·.hubLastCmd) = some .rejected := by decide +kernel
/-- R180: a hub at rest passes through QUIESCING in one step. -/
theorem test_enterQuiesce : after (.enterQuiesce 0) op (·.hubState) = some .quiesced := by decide +kernel
/-- R175: with SUPPLY_WARN asserted initialisation ends in QUIESCED. -/
theorem test_initialisation_warned :
    after .initialisationEnd { State.reset with supplyWarn := true } (·.hubState) = some .quiesced := by decide +kernel
/-- R174: RESET returns the hub to INITIALISING. -/
theorem test_powerOn : after .powerOnReset op (fun t => (t.hubState, t.resetAsserted)) = some (.initialising, true) := by
  decide +kernel
/-- R99: 17 is ignored, tested whole; so is 0x10001. -/
theorem test_threshold :
    after (.logThresholdWrite 0 3 0x10001) op (fun t => (t.log 3).threshold) = some 1 := by decide +kernel
/-- R118: an empty channel changes domain at once: channel 7 to domain 2. -/
theorem test_assign : after (.grdAssign 0 0x27) op (fun t => (t.ch 7).domain) = some 2 := by decide +kernel
/-- R105, R115: a tenant's read of GRD_ASSIGN. -/
theorem test_violation :
    after (.registerAccessViolation 1 0x140 .read) op (fun t => (t.readReg (.trapSlot 0), t.readReg (.trapSlot 1))) =
      some (0x80007F11, 0x140) := by decide +kernel
/-- R143: a new rise with AUTO_ASK 0 latches the channel's source. -/
theorem test_hailRise_latched : after (.hailRise 5) op (fun t => t.sources) = some 0x2000 := by decide +kernel
/-- R144: with AUTO_ASK 1 it is served. -/
theorem test_hailRise_served :
    after (.hailRise 5) (opCh 5 fun ch => { ch with autoAsk := true }) (fun t => (t.ch 5).state) = some .servicing := by
  decide +kernel
/-- R44: the head entry is taken, and its descriptor asked for. -/
theorem test_takeRun :
    after (.takeRun 4) (opCh 4 fun ch => { ch with armed := true, queue := [{ posted := 0x30000, poster := 0 }] })
      (fun t => ((t.ch 4).state, (t.mem 4).slot)) =
      some (.loading, .requested { addr := 0x30000, body := .read 5 }) := by decide +kernel

/-! ### Moments -/

/-- R14: HAIL that is deasserted and asserted again at one moment is no change. -/
theorem test_moment_hail : op.inOrder [.hailRise 3, .hailFall 3] = [] ∧ op.inOrder [.hailFall 3, .hailRise 3] = [] := by
  decide +kernel
/-- R85, R184: host accesses are decided in the order of their delivery. -/
theorem test_moment_delivery : op.inOrder [.start 0 3, .stop 0 3, .chPortStrayClear 1 0] =
    [.start 0 3, .stop 0 3, .chPortStrayClear 1 0] := by
  decide +kernel
/-- R143: the timer expiries, then the hail decisions, then the taking of a run, and the host access after them (R103). -/
theorem test_moment_steps : op.inOrder [.chPortStrayClear 1 2, .takeRun 1, .hailRise 0, .notReady 5] =
    [.notReady 5, .hailRise 0, .takeRun 1, .chPortStrayClear 1 2] := by
  decide +kernel
/-- R51, R172: a STOP that meets the expiry prevails over it. -/
theorem test_moment_expiry : op.inOrder [.notReady 5, .stop 0 5] = [.stop 0 5, .notReady 5] ∧
    op.inOrder [.notReady 5, .readyChange 5 true] = [.readyChange 5 true, .notReady 5] := by
  decide +kernel

/-- R85, R132: a STOP that the Guard refuses is no command. The expiry that meets it runs on, and the read it asks for is counted
when the store becomes free at that moment. -/
theorem test_moment_refusedStop :
    let s := { (inRun 1 .pacing { outRun with w0 := 0x410 }).modCh 1 fun ch => { ch with paceTimer := .due } with
      granted := some (.host { domain := 0, word := 0, access := .read }) }
    s.inOrder [.storeAccessDone, .stop 2 1, .paceExpiry 1] = [.storeAccessDone, .paceExpiry 1, .stop 2 1] ∧
      (s.moment [.storeAccessDone, .stop 2 1, .paceExpiry 1]).granted =
        some (.channel 1 { addr := 0, body := .read 1 } true) := by
  decide +kernel

/-- R4, R7, R9: an answer given twice meets a write of 1 to STRAY. The first ends the ASK, the second is stray where it is taken,
and its setting prevails, while a later write clears the flag. -/
theorem test_moment_straySetPrevails :
    let s := awaiting 5 .status outRun .ask
    let answer := Instr.answer 5 .refuse 5 5 none
    ((s.moment [answer, answer, .chPortStrayClear 0 5]).port 5).stray = true ∧
      ((s.moment [answer, .chPortStrayClear 0 5]).port 5).stray = false ∧
      ((s.moment [answer, answer, .chPortStrayClear 0 5, .chPortStrayClear 0 5]).port 5).stray = false := by
  decide +kernel

/-- R7, R9, R144: an answer that arrives while nothing is outstanding stays stray when a hail rise of the moment is served, and the
ASK stays outstanding. -/
theorem test_moment_strayBeforeService :
    let s := opCh 5 fun ch => { ch with autoAsk := true }
    let t := s.moment [.hailRise 5, .chPortStrayClear 0 5, .answer 5 .refuse 5 0 none]
    (t.port 5).stray = true ∧ (t.port 5).outstanding = some { kind := .ask, seq := 0, issuer := .channel } := by
  decide +kernel

/-! ### States that meet the hypotheses of the statements, clause by clause -/

/-- The supervisor and an owning tenant reach a channel, a log and the hub's registers. -/
theorem witness_reaches :
    op.reachesChannel 0 7 ∧ (opCh 7 fun ch => { ch with domain := 3 }).reachesChannel 3 7 ∧ op.reachesLog 0 3 ∧
      op.reachesLog 3 3 ∧ op.reachesHub 0 := by
  unfold State.reachesChannel State.reachesLog State.reachesHub
  decide +kernel

theorem witness_StepRunsTheFrontCommand : State.reset.pending = [] := rfl

theorem witness_DirectCommandsAreAccepted :
    op.hubState = .operational ∧ op.direct.result ≠ .busy ∧ (op.ch 7).resting ∧ (op.port 7).outstanding = none ∧
      ((inRun 7 .data outRun).modCh 7 fun ch => { ch with detached := true }).hubState = .operational ∧
      (((inRun 7 .data outRun).modCh 7 fun ch => { ch with detached := true }).ch 7).detached = true := by
  unfold Channel.resting
  decide +kernel

theorem witness_DirectCommandsTurnedAway :
    ({ op with direct := { Direct.reset with result := .busy } } : State).direct.result = .busy ∧
      ({ op with hubState := .quiescing } : State).direct.result ≠ .busy ∧
      ({ op with hubState := .quiesced } : State).hubState ≠ .initialising ∧
      (inRun 0 .lead outRun).hubState = .operational ∧ ((inRun 0 .lead outRun).ch 0).detached = false ∧
      ¬ ((inRun 0 .lead outRun).ch 0).resting := by
  unfold Channel.resting
  decide +kernel

/-- A port with a direct transaction of a kind outstanding, its timer due. -/
def directOut (k : Kind) : State :=
  op.modPort 0 fun p => { p with outstanding := some { kind := k, seq := 255, issuer := .direct }, timer := .due }

theorem witness_DirectTransactionsEndInTheSlot :
    (∀ k ∈ [Kind.ask, Kind.put], ((directOut k).port 0).outstanding = some { kind := k, seq := 255, issuer := .direct } ∧
      ((directOut k).port 0).timer = .due ∧ (directOut k).resetAsserted = false) ∧ (op.port 0).outstanding = none := by
  decide +kernel

theorem witness_StrayAnswerOnlySetsItsFlag :
    op.resetAsserted = false ∧ (op.port 0).outstanding = none ∧
      ((awaiting 0 .status outRun .ask).port 0).outstanding = some { kind := .ask, seq := 5, issuer := .channel } := by
  decide +kernel

/-- HAIL shown at port 7. -/
def hailed : State := op.modPort 7 fun p => { p with hail := true, hailSeen := true }

theorem witness_HailRisesAreServedOrLatched :
    (hailed.port 7).hail = true ∧ (op.port 7).hail = false ∧ State.reset.hubState = .initialising ∧
      ({ hailed with hubState := .initialising } : State).hubState = .initialising ∧
      ((hailed.modPort 7 fun p => { p with hail := false }).port 7).hailSeen = true ∧ (op.port 7).hailSeen = false ∧
      (op.ch 7).state ≠ .pacing ∧ ¬ op.waitsForReady 7 ∧ (op.ch 7).autoAsk = false ∧ op.directOnPort 7 = false := by
  unfold State.waitsForReady
  decide +kernel

theorem witness_HailRisesAreServed :
    let s := opCh 7 fun ch => { ch with autoAsk := true }
    s.hubState = .operational ∧ (s.port 7).hail = false ∧ (s.port 7).hailSeen = false ∧ (s.ch 7).state = .idle ∧
      (s.ch 7).detached = false ∧ (s.ch 7).autoAsk = true ∧ (s.port 7).outstanding = none := by
  decide +kernel

/-- A channel that waits for READY, undisturbed; at a repetition boundary, or in a repetition; its ready timer due. -/
def waiting (d : Snapshot) (inside : Bool) : State :=
  (inRun 1 .data d).modCh 1 fun ch =>
    { ch with reps := 0xFFFF, readyTimer := .due, run := { ch.run with inRepetition := inside } }

theorem witness_waiting :
    ∀ d ∈ [outRun, inpRun], ∀ b, (waiting d b).waitsForReady 1 ∧ (waiting d b).undisturbed 1 ∧
      ((waiting d b).port 1).outstanding = none ∧ ((waiting d b).port 1).ready = false ∧
      ((waiting d b).ch 1).readyTimer = .due ∧ ((waiting d b).ch 1).run.snapshot.ask = false ∧
      ((waiting d b).ch 1).run.portUsed = true ∧ (waiting d b).hubState ≠ .initialising := by
  unfold State.waitsForReady State.undisturbed
  decide +kernel

theorem witness_ReadySendsTheWaitingWord :
    outRun.dir = .output ∧ inpRun.dir ≠ .output ∧ ¬ op.waitsForReady 1 ∧ (op.ch 1).state ≠ .pacing := by
  unfold State.waitsForReady
  decide +kernel

theorem witness_TickCountsEveryTimer :
    op.resetAsserted = false ∧ ({ State.reset with resetAsserted := true } : State).resetAsserted = true := by
  decide

theorem witness_ReadyTimeoutIsNotReady :
    let s := (waiting outRun false).modCh 1 fun ch => { ch with run := { ch.run with portUsed := false } }
    s.waitsForReady 1 ∧ (s.ch 1).readyTimer = .due ∧ s.undisturbed 1 ∧ (s.port 1).ready = false ∧
      (s.port 1).outstanding = none ∧ (s.ch 1).run.portUsed = false ∧ (op.ch 1).readyTimer ≠ .due := by
  unfold State.waitsForReady State.undisturbed
  decide +kernel

/-- A channel that paces, its pace timer due. -/
def pacing (d : Snapshot) : State := (inRun 7 .pacing d).modCh 7 fun ch => { ch with paceTimer := .due }

theorem witness_HailEndsTheDataPhase :
    ((waiting outRun true).port 1).hailSeen = false ∧
      (((waiting outRun true).modPort 1 fun p => { p with hailSeen := true }).port 1).hailSeen = true ∧
      (let s := pacing outRun;
        (s.ch 7).state = .pacing ∧ s.undisturbed 7 ∧ s.hubState ≠ .initialising ∧ (s.port 7).outstanding = none ∧
          (s.ch 7).run.snapshot.ask = false ∧ (s.ch 7).run.portUsed = true) := by
  unfold State.undisturbed
  decide +kernel

theorem witness_PaceExpiryReadiesTheRepetition :
    (∀ d ∈ [outRun, inpRun], ((pacing d).ch 7).state = .pacing ∧ ((pacing d).ch 7).paceTimer = .due ∧
      (pacing d).undisturbed 7 ∧ ((pacing d).port 7).ready = false ∧ ((pacing d).ch 7).readyTimer = .stopped) ∧
      (op.ch 7).paceTimer ≠ .due := by
  unfold State.undisturbed
  decide +kernel

/-- An armed channel of a tenant whose host window has one page, with a run posted at an address. -/
def posted (a : Word) : State :=
  { opCh 4 fun ch => { ch with armed := true, domain := 1, queue := [{ posted := a, poster := 1 }] } with
    windows := State.reset.windows.set 0 { Window.reset with hostSize := 1 } }

theorem witness_TakingARunChecksItsDescriptor :
    (∀ inside : Bool,
      let a : Word := if inside then 0xFE0 else 0x1000
      let s := posted a
      (s.ch 4).queue = [{ posted := a, poster := 1 }] ∧ (s.ch 4).state = .idle ∧ (s.ch 4).armed = true ∧
        s.hubState = .operational ∧ (s.ch 4).detached = false ∧ (s.ch 4).detachPending = false ∧
        s.directOnPort 4 = false ∧ (s.ch 4).flushCount = 0 ∧ (s.ch 4).stopPending = false ∧
        (s.log (s.ch 4).domain).records.length < 16) ∧
      (posted 0xFE0).rangeOk 1 .host 0xFE0 8 = true ∧ (posted 0x1000).rangeOk 1 .host 0x1000 8 = false ∧
      (op.ch 4).queue = [] := by
  decide +kernel

/-- R116: a taking of a run that violates comes in the place of its channel. -/
theorem test_moment_violations :
    let r : MemResponse := { error := 0, w0 := 0, w1 := 0, w2 := 0, w3 := 0, w4 := 0 }
    (posted 0x1000).inOrder [.memoryResponse 5 0 r, .takeRun 4] = [.takeRun 4, .memoryResponse 5 0 r] ∧
      (posted 0xFE0).inOrder [.takeRun 4, .memoryResponse 5 0 r] = [.memoryResponse 5 0 r, .takeRun 4] := by
  decide +kernel

/-- One lead word's read. -/
def oneWord : Access := { addr := 0x200, body := .read 1 }

theorem witness_AccessesAreIssuedAndDiscarded :
    ({ op with presented := some 7 } : State).presented = some 7 ∧
      ((op.modMem 7 fun m => { m with slot := .requested oneWord }).mem 7).slot = .requested oneWord ∧ op.presented = none ∧
      (op.mem 7).slot = .empty ∧ ((accessing 7 .lead outRun oneWord).mem 7).slot = .outstanding oneWord 9 .due ∧
      ((op.modMem 7 fun m => { m with slot := .abandoned 255 .due, need := some oneWord }).mem 7).slot =
        .abandoned 255 .due := by
  decide +kernel

theorem witness_FailedAccessFaultsTheRun :
    ∀ x ∈ [ChState.lead, .data],
      let s := accessing 3 x outRun oneWord
      oneWord.body = .read 1 ∧ (s.ch 3).run.portUsed = true ∧
        (s.port 3).outstanding = none ∧ (s.mem 3).need = none ∧ (s.ch 3).state = x ∧
        (s.mem 3).slot = .outstanding oneWord 9 .due := by
  decide +kernel

theorem witness_FailedStoreAccess :
    let s := { inRun 3 .lead outRun with
      granted := some (.channel 3 oneWord true), store := [(128, { data := 0, check := true })] }
    (s.ch 3).state = .lead ∧ s.granted = some (.channel 3 oneWord true) ∧
      (s.store.get (storeIndex oneWord.addr)).agrees = false := by
  decide +kernel

/-- The port not yet used; the write of an input word; a descriptor's read of a run as it was taken. -/
theorem witness_FailedAccessBeforeThePort :
    (let s := (accessing 3 .lead outRun oneWord).modCh 3 fun ch => { ch with run := { ch.run with portUsed := false } };
      (s.ch 3).run.portUsed = false ∧ (s.ch 3).state = .lead ∧ (s.mem 3).need = none) ∧
      (let a : Access := { addr := 0x100, body := .write [7] };
        a.body = .write [7] ∧ ((accessing 3 .data inpRun a).mem 3).slot = .outstanding a 9 .due) ∧
      (let s := (accessing 3 .loading outRun { addr := 0x40, body := .read 5 }).modCh 3
          fun ch => { ch with run := { Run.blank with poster := 0, descAddr := 0x40 } };
        (s.ch 3).state = .loading ∧ (s.ch 3).run = { Run.blank with poster := 0, descAddr := 0x40 } ∧ (s.ch 3).reps = 0 ∧
          (s.ch 3).words = 0 ∧ (s.ch 3).flushCount = 0 ∧ (s.log (s.ch 3).domain).records.length < 16 ∧
          (∃ i < 5, (16 : BitVec 5).getLsbD i = true)) := by
  decide +kernel

theorem witness_HostStoreAccessCompletes :
    (∀ x ∈ [HostAccess.read, .write 7], ({ op with granted := some (.host { domain := 3, word := 8191, access := x }) } :
      State).granted = some (.host { domain := 3, word := 8191, access := x })) ∧
      (op.store.get 8191).check = oddBits (op.store.get 8191).data ∧
      (Store.get [(8191, { data := 3, check := true })] 8191).check ≠
        oddBits (Store.get [(8191, { data := 3, check := true })] 8191).data ∧ op.granted = none := by
  decide +kernel

/-- A channel with an access granted in a store that holds a descriptor of one lead word and two words out from word 16 on. -/
def granted (s : State) (c : Chan) (a : Access) (wanted : Bool) : State :=
  { s with
    granted := some (.channel c a wanted),
    store := [(16, StoreWord.agreeing 0x11), (17, StoreWord.agreeing 2), (18, StoreWord.agreeing 0xFFC),
      (19, StoreWord.agreeing 0x100)] }

theorem witness_ChannelStoreAccessCompletes :
    (let s := granted (inRun 3 .lead outRun) 3 oneWord true;
      s.granted = some (.channel 3 oneWord true) ∧ oneWord.body = .read 1 ∧ (s.ch 3).state = .lead ∧
        (s.ch 3).stopPending = false ∧ s.hubState ≠ .quiescing ∧ (s.port 3).outstanding = none ∧
        (s.store.get (storeIndex (oneWord.addr + 0))).check = oddBits (s.store.get (storeIndex (oneWord.addr + 0))).data) ∧
      (∀ ready : Bool, let s := (granted (inRun 3 .data outRun) 3 oneWord true).modPort 3 fun p => { p with ready := ready };
        (s.ch 3).run.snapshot.dir = .output ∧ s.undisturbed 3 ∧ (s.port 3).outstanding = none ∧
          (s.port 3).ready = ready ∧ (s.ch 3).readyTimer = .stopped ∧
          ((s.modCh 3 fun ch => { ch with run := { ch.run with inRepetition := true } }).ch 3).run.inRepetition = true) ∧
      (let s := granted (inRun 3 .data inpRun) 3 { addr := 0x7FFC, body := .write [7] } true;
        (s.ch 3).state = .data ∧ (s.ch 3).run.snapshot.dir = .input ∧ s.undisturbed 3 ∧ (s.port 3).ready = false ∧
          (s.ch 3).readyTimer = .stopped ∧ 1 < (s.ch 3).run.remaining) ∧
      (granted op 3 { addr := 0x54, body := .write [1, 2, 3] } false).granted =
        some (.channel 3 { addr := 0x54, body := .write [1, 2, 3] } false) := by
  unfold State.undisturbed
  decide +kernel

theorem witness_DescriptorComesThroughTheStore :
    let s := granted (inRun 3 .loading outRun) 3 { addr := 0x40, body := .read 5 } true
    let word : Nat → StoreWord := fun i => s.store.get (storeIndex ((0x40 : Word) + BitVec.ofNat 32 (4 * i)))
    let d : Snapshot :=
      { w0 := (word 0).data, w1 := (word 1).data, w2 := (word 2).data, w3 := (word 3).data, w4 := (word 4).data }
    (∀ i < 5, (word i).check = oddBits (word i).data) ∧ d.formatOk = true ∧ d.leads ≠ 0 ∧ (s.ch 3).run.leadsDone = 0 ∧
      s.rangeOk (s.ch 3).run.poster d.leadSpace d.w2 d.leads.toNat = true ∧
      s.rangeOk (s.ch 3).run.poster d.dataSpace d.w3 d.count.toNat = true ∧ (s.ch 3).state = .loading ∧
      (s.ch 3).stopPending = false := by
  decide +kernel

theorem witness_WritebackGoesThroughTheStore :
    let s := granted (inRun 3 .writeback outRun) 3 { addr := 0x7FF4, body := .write [1, 2, 3] } true
    (s.ch 3).state = .writeback ∧ (s.ch 3).flushCount = 0 ∧ (s.log (s.ch 3).domain).records.length < 16 := by
  decide +kernel

theorem witness_ApertureAccessesAreDecidedOnArrival :
    op.hubState ≠ .initialising ∧ (0x7FFC : ApertureOffset).toNat % 4 = 0 ∧ (0x7FFE : ApertureOffset).toNat % 4 ≠ 0 ∧
      op.rangeOk 0 .staging ((0x7FFC : ApertureOffset).setWidth 32) 1 = true ∧
      op.rangeOk 1 .staging ((0 : ApertureOffset).setWidth 32) 1 = false ∧ State.reset.hubState = .initialising := by
  decide +kernel

theorem witness_StorageFailureBreaksOneWord : op.storeCanonical ∧ (0 : Nat) ≠ (8191 : StoreIndex).toNat := by
  unfold State.storeCanonical
  decide +kernel

/-- Two host accesses wait at the arbiter. -/
def hostQueue : List HostRequest := [{ domain := 0, word := 0, access := .read }, { domain := 1, word := 8191, access := .read }]

theorem witness_ArbiterGrantsByItsTable :
    let s := { op.setStoreReq 0 (some oneWord) with hostWaiting := hostQueue, hostRun := 2 }
    s.granted = none ∧ s.storeReq 0 = some oneWord ∧ (∀ x, s.storeReq x ≠ none → 0 - s.lastGranted - 1 ≤ x - s.lastGranted - 1) ∧
      s.hostRun = 2 ∧ ({ s with hostRun := 1 } : State).hostRun < 2 ∧ s.hostWaiting ≠ [] ∧
      (∀ c, ({ op with hostWaiting := hostQueue } : State).storeReq c = none) ∧ op.hostWaiting = [] := by
  decide +kernel

/-- R132: an aperture access that arrives as the store becomes free is counted: the host, granted once while channel 5
waited, is granted a second time. One by one, the channel would be granted at the completion. -/
theorem test_moment_grant :
    let s := { op.setStoreReq 5 (some oneWord) with
      hostRun := 1, granted := some (.host { domain := 0, word := 0, access := .read }) }
    let t := s.moment [.apertureRead 0 .word 8, .storeAccessDone]
    t.granted = some (.host { domain := 0, word := 2, access := .read }) ∧ t.hostRun = 2 ∧ t.storeReq 5 = some oneWord ∧
      after .storeAccessDone s (·.granted) = some (some (.channel 5 oneWord true)) := by
  decide +kernel

theorem witness_SettleDoesWhatIsDue :
    let s := { op.modMem 7 fun m => { m with slot := .requested oneWord } with presented := some 7 }
    (s.mem 7).isRequested = true ∧ ({ s with presented := some 0 } : State).presented = some 0 ∧ (s.mem 0).isRequested = false := by
  decide +kernel

theorem witness_RangeChecksFollowTheWindows : (3 : Dom).val = (2 : Fin 3).val + 1 := rfl

/-- The response that carries a descriptor. -/
def fetched (w0 : Word) : MemResponse := { error := 0, w0 := w0, w1 := 0x10002, w2 := 0xFFC, w3 := 0x100, w4 := 0 }

/-- A tenant's channel in LOADING, its descriptor's read outstanding. -/
def loading : State :=
  { (accessing 6 .loading { outRun with w0 := 0 } { addr := 0x40, body := .read 5 }).modCh 6
      fun ch => { ch with run := { ch.run with poster := 1 } } with
    windows := State.reset.windows.set 0 { Window.reset with hostSize := 1 } }

theorem witness_DescriptorIsCheckedThenLed :
    ((loading.ch 6).state = .loading ∧ (loading.mem 6).slot = .outstanding { addr := 0x40, body := .read 5 } 9 .due ∧
      (loading.mem 6).need = none ∧ (loading.ch 6).stopPending = false ∧ (loading.ch 6).run.leadsDone = 0 ∧
      (loading.ch 6).run.poster = 1 ∧ loading.hubState ≠ .quiescing) ∧
      (∀ k : Fin 3,
        let x : Word × Bool × Bool := [(0x11, true, true), (0x12, true, false), (0x17, false, false)][k.val]
        let r := fetched x.1
        let d : Snapshot := { w0 := r.w0, w1 := r.w1, w2 := r.w2, w3 := r.w3, w4 := r.w4 }
        r.error = 0 ∧ d.formatOk = x.2.1 ∧ (x.2.1 = true → d.leads ≠ 0 ∧
          loading.rangeOk 1 d.leadSpace d.w2 d.leads.toNat = x.2.2 ∧ loading.rangeOk 1 d.dataSpace d.w3 d.count.toNat = true)) := by
  decide +kernel

/-- Descriptors without lead words: TURN, OUT, IN, ASK alone, nothing at all; and one whose buffer ends past the window. -/
theorem witness_DescriptorWithoutLeads :
    (∀ k : Fin 5,
      let x : Word × Word := [(0x18, 2), (0x10, 2), (0x20, 2), (0x40, 0), (0, 0)][k.val]
      let d : Snapshot := { w0 := x.1, w1 := x.2, w2 := 0, w3 := 0x100, w4 := 0 }
      d.formatOk = true ∧ d.leads = 0 ∧ (d.turn = true ↔ k = 0) ∧ (d.dir = .output ↔ k < 2) ∧ (d.dir = .input ↔ k = 2) ∧
        (d.dir = .none ↔ 2 < k) ∧ (d.ask = true ↔ k = 3) ∧
        (d.hasData = true → loading.rangeOk 1 d.dataSpace d.w3 d.count.toNat = true)) ∧
      (loading.port 6).outstanding = none ∧ (loading.port 6).hail = false ∧ (loading.port 6).ready = false ∧
      (loading.ch 6).readyTimer = .stopped ∧
      ((loading.modCh 6 fun ch => { ch with run := { ch.run with portUsed := false } }).ch 6).run.portUsed = false ∧
      (let d : Snapshot := { w0 := 0x10, w1 := 2, w2 := 0, w3 := 0xFFC, w4 := 0 };
        d.formatOk = true ∧ d.hasData = true ∧ loading.rangeOk 1 d.dataSpace d.w3 d.count.toNat = false) := by
  decide +kernel

/-- A run of two lead words with a TURN; the same with TOLERATE. -/
def ledRun (w0 : Word) : Snapshot := { outRun with w0 := w0 }

theorem witness_LeadWordsThenTurnGoInOrder :
    (let s := accessing 0 .lead (ledRun 0x1A) oneWord;
      (s.ch 0).state = .lead ∧ (s.ch 0).stopPending = false ∧ s.hubState ≠ .quiescing ∧ (s.port 0).outstanding = none ∧
        (s.mem 0).need = none ∧ (s.mem 0).slot = .outstanding { addr := 0x200, body := .read 1 } 9 .due) ∧
      (∀ n ∈ [(0 : BitVec 3), 1],
        let s := (awaiting 0 .lead (ledRun 0x1A) .lead).modCh 0 fun ch => { ch with run := { ch.run with leadsDone := n } }
        s.resetAsserted = false ∧ (s.port 0).outstanding = some { kind := .lead, seq := 5, issuer := .channel } ∧
          ((s.ch 0).run.leadsDone + 1 = (s.ch 0).run.snapshot.leads ↔ n = 1) ∧ (s.ch 0).run.snapshot.turn = true) ∧
      (let s := awaiting 0 .lead (ledRun 0x11A) .lead;
        (s.ch 0).state = .lead ∧ (s.ch 0).stopPending = false ∧ (s.ch 0).run.snapshot.tolerate = true ∧
          (s.ch 0).run.leadsDone + 1 ≠ (s.ch 0).run.snapshot.leads) ∧
      (let s := awaiting 0 .turn (ledRun 0x11A) .turn;
        s.resetAsserted = false ∧ (s.ch 0).state = .turn ∧ (s.ch 0).stopPending = false ∧ s.hubState ≠ .quiescing ∧
          (s.ch 0).run.snapshot.dir = .output ∧ (s.port 0).outstanding = some { kind := .turn, seq := 5, issuer := .channel } ∧
          (s.ch 0).run.snapshot.tolerate = true) := by
  decide +kernel

/-- The states in which each kind of a run's transaction stands. -/
def stands : List (ChState × Kind × RunStep) :=
  [(ChState.lead, Kind.lead, RunStep.lead), (.turn, .turn, .turn), (.data, .put, .put), (.data, .get, .get), (.status, .ask, .ask)]

theorem witness_RefusalIsAFault_NoAnswerClearsThePort :
    ∀ x ∈ stands,
      let s := awaiting 2 x.1 (if x.2.1 = .get then inpRun else outRun) x.2.1
      s.resetAsserted = false ∧ (s.ch 2).run.snapshot.tolerate = false ∧
        (s.ch 2).run.portUsed = true ∧ (s.ch 2).state = x.1 ∧ (s.port 2).timer = .due ∧
        (x.1 = .data → ((s.ch 2).run.snapshot.dir = .output ↔ x.2.1 = .put)) ∧
        (s.port 2).outstanding = some { kind := x.2.1, seq := 5, issuer := .channel } := by
  decide +kernel

/-- A channel with a PUT outstanding, words remaining, repetitions begun, and a descriptor. -/
def putting (d : Snapshot) (remaining : Nat) (reps : BitVec 16) : State :=
  (awaiting 2 .data d .put).modCh 2 fun ch => { ch with reps := reps, run := { ch.run with remaining := remaining } }

theorem witness_AcceptedPutMovesOn :
    (∀ x ∈ [(outRun, 2, (1 : BitVec 16)), (outRun, 1, 1), ({ outRun with w0 := 0x90, w4 := 3 }, 1, 3),
        ({ outRun with w0 := 0x90, w4 := 0x10003 }, 1, 2)],
      let s := putting x.1 x.2.1 x.2.2
      s.resetAsserted = false ∧ (s.ch 2).state = .data ∧ s.undisturbed 2 ∧ (s.ch 2).run.snapshot.dir = .output ∧
        (s.port 2).outstanding = some { kind := .put, seq := 5, issuer := .channel } ∧ (s.ch 2).run.remaining = x.2.1 ∧
        (s.ch 2).run.snapshot.ask = false ∧ (s.ch 2).run.portUsed = true) ∧
      outRun.loop = false ∧ (let d := { outRun with w0 := 0x90, w4 := 3 }; d.loopLimit ≠ 0 ∧ d.loopLimit = 3) ∧
      (let d := { outRun with w0 := 0x90, w4 := 0x10003 }; d.loop = true ∧ d.loopLimit ≠ 2 ∧ d.pace ≠ 0) ∧
      (let s := putting { outRun with w0 := 0x110 } 2 1;
        s.undisturbed 2 ∧ (s.ch 2).run.snapshot.tolerate = true ∧ 1 < (s.ch 2).run.remaining ∧
          (s.ch 2).run.snapshot.dir = .output) ∧
      (let s := putting { outRun with w0 := 0x50 } 1 1;
        s.undisturbed 2 ∧ (s.ch 2).run.snapshot.ask = true ∧ (s.ch 2).run.snapshot.loop = false ∧
          (s.ch 2).run.remaining = 1 ∧ (s.ch 2).run.snapshot.dir = .output) := by
  unfold State.undisturbed
  decide +kernel

theorem witness_AcceptedGetIsWrittenThenCounted :
    (let s := awaiting 5 .data inpRun .get;
      (s.ch 5).state = .data ∧ (s.ch 5).run.snapshot.dir = .input ∧ s.resetAsserted = false ∧
        (s.port 5).outstanding = some { kind := .get, seq := 5, issuer := .channel }) ∧
      (let a : Access := { addr := 0x100, body := .write [7] };
        let s := ((accessing 5 .data inpRun a).modPort 5 fun p => { p with ready := true }).modCh 5
          fun ch => { ch with run := { ch.run with inRepetition := true } };
        a.body = .write [7] ∧ s.undisturbed 5 ∧ (s.port 5).outstanding = none ∧ (s.port 5).ready = true ∧
          (s.mem 5).need = none ∧ (s.mem 5).slot = .outstanding a 9 .due ∧ 1 < (s.ch 5).run.remaining ∧
          (s.ch 5).run.inRepetition = true) ∧
      (let s := ((awaiting 5 .data { inpRun with w0 := 0x120 } .get).modPort 5 fun p => { p with ready := true }).modCh 5
          fun ch => { ch with run := { ch.run with inRepetition := true } };
        (s.ch 5).run.snapshot.dir = .input ∧ (s.ch 5).run.snapshot.tolerate = true ∧ s.undisturbed 5 ∧
          (s.port 5).ready = true ∧ 1 < (s.ch 5).run.remaining ∧ (s.ch 5).run.inRepetition = true ∧
          (s.port 5).outstanding = some { kind := .get, seq := 5, issuer := .channel }) := by
  unfold State.undisturbed
  decide +kernel

theorem witness_CloseLeadsToTheWriteback :
    ∀ x ∈ [(RunOutcome.stopped, false), (.refused, true)],
      let s := (awaiting 0 .closing outRun .close).modCh 0 fun ch => { ch with run := { ch.run with outcome := some x.1 } }
      (s.ch 0).state = .closing ∧ (s.port 0).outstanding = some { kind := .close, seq := 5, issuer := .channel } ∧
        s.resetAsserted = false ∧ (s.port 0).timer = .due ∧ (s.ch 0).run.faulted = x.2 := by
  decide +kernel

/-- Sixteen records. -/
def sixteen : List Record := List.replicate 16 (flushedRecord 0 1)

/-- A channel whose write-back is outstanding, before a log of some records. -/
def writingBack (rs : List Record) : State :=
  ((accessing 3 .writeback outRun { addr := 0x54, body := .write [1, 2, 3] }).modCh 3
    fun ch => { ch with run := { ch.run with outcome := some .done } }).modLog 0 fun l => { l with records := rs }

theorem witness_WritebackEndsInTheLog :
    ∀ rs ∈ [sixteen.tail, sixteen],
      let s := writingBack rs
      (s.ch 3).state = .writeback ∧ (s.mem 3).slot = .outstanding { addr := 0x54, body := .write [1, 2, 3] } 9 .due ∧
        (s.mem 3).need = none ∧ (s.ch 3).run.outcome = some .done ∧ (s.ch 3).flushCount = 0 ∧ (s.ch 3).domain = 0 ∧
        ((s.log 0).records.length < 16 ↔ rs = sixteen.tail) ∧
        ((s.modCh 3 fun ch => { ch with flushCount := 255 }).ch 3).flushCount ≠ 0 ∧ sixteen.tail.length = 15 ∧
        ((writingBack sixteen.tail.tail).log 0).records.length < 15 := by
  decide +kernel

/-- A hub whose screen entry 7 matches every word of channel 2. -/
def screened (s : State) : State :=
  { s with screen := s.screen.set 7 { ScreenEntry.reset with valid := true, channels := 4, action := 2, hits := 0xFFFF } }

theorem witness_ScreeningPicksTheLowestMatch :
    (screened op).actingEntry 2 0x81 = some 7 ∧ (∀ j : Fin 8, (op.screen[j]).matches 2 0x81 = false) := by
  decide +kernel

theorem witness_StatusWordIsScreenedThenClosed :
    ∀ stop : Bool,
      let s := (screened (awaiting 2 .status outRun .ask)).modCh 2 fun ch => { ch with stopPending := stop }
      s.resetAsserted = false ∧ (s.ch 2).state = .status ∧ (s.ch 2).stopPending = stop ∧ (s.ch 2).run.portUsed = true ∧
        (s.port 2).outstanding = some { kind := .ask, seq := 5, issuer := .channel } ∧ s.actingEntry 2 0x81 = some 7 ∧
        (awaiting 2 .status outRun .ask).actingEntry 2 0x81 = none ∧
        ((awaiting 2 .status { outRun with w0 := 0x150 } .ask).ch 2).run.snapshot.tolerate = true := by
  decide +kernel

theorem witness_ServiceEndsInItsRecord :
    let s := ((awaiting 2 .servicing outRun .ask).modCh 2 fun ch => { ch with run := Run.blank }).modLog 0
      fun l => { l with records := sixteen.tail }
    (s.ch 2).state = .servicing ∧ (s.ch 2).flushCount = 0 ∧ (s.ch 2).run = Run.blank ∧
      (s.log (s.ch 2).domain).records.length < 16 ∧
      (s.port 2).outstanding = some { kind := .ask, seq := 5, issuer := .channel } ∧ s.resetAsserted = false ∧
      (s.port 2).timer = .due ∧ ∀ j : Fin 8, (s.screen[j]).matches 2 0x81 = false := by
  decide +kernel

theorem witness_ResultWordsHoldTheirFields :
    ({ Run.blank with outcome := some .done } : Run).outcome = some .done ∧ (op.log 3).records = [] ∧
      ((op.modLog 3 fun l => { l with records := sixteen }).log 3).records = flushedRecord 0 1 :: sixteen.tail ∧
      op.lastHit = none ∧ ({ op with lastHit := some { channel := 7, entry := 6 } } : State).lastHit =
        some { channel := 7, entry := 6 } ∧
      op.trap = none ∧ (op.recordTrap (registerTrap 1 0x140)).trap = some (registerTrap 1 0x140) ∧
      (op.port 7).outstanding = none ∧
      ((awaiting 7 .lead outRun .lead).port 7).outstanding = some { kind := .lead, seq := 5, issuer := .channel } := by
  decide +kernel

/-- The ends of a granted channel group and log window, the offsets next to them, and INITIALISING. -/
theorem witness_ReadsAnswerByTheGuard :
    let s := opCh 7 fun ch => { ch with domain := 2 }
    (s.ch 7).domain = 2 ∧ (∀ off ∈ [(0x780 : Offset), 0x7FC], 0x400 + 0x80 * 7 ≤ off.toNat ∧ off.toNat < 0x480 + 0x80 * 7) ∧
      (0x880 : Offset).toNat = 0x800 + 0x40 * (2 : Dom).val ∧ ¬ (0x8C0 : Offset).toNat < 0x840 + 0x40 * (2 : Dom).val ∧
      State.reset.hubState = .initialising ∧ (s.readWindow 2 .word 0x790, s.readWindow 2 .word 0x710) = (0xC35003E8, 0) := by
  decide +kernel

/-- Example 12-1: channel 6 of domain 3, given to domain 1, waits for READY with two runs queued and three discarded. -/
theorem test_chStatus_example :
    ((inRun 6 .data outRun).modCh 6 fun ch =>
      { ch with
        armed := true, lastCmd := .accepted, queue := [{ posted := 0, poster := 3 }, { posted := 0x20, poster := 3 }],
        flushCount := 3, domain := 3, pendingDomain := some 1 }).readReg (.ch 6 .status) = 0x0F0322A4#32 := by
  decide +kernel

theorem witness_ChannelCommandsSetTheirFields :
    7 < (8 : Word).toNat ∧ (opCh 7 fun ch => { ch with detached := true }).ch 7 = { Channel.reset with detached := true } ∧
      (op.ch 7).detached = false ∧ (op.ch 7).resting ∧ ¬ ((inRun 7 .logging outRun).ch 7).resting := by
  unfold Channel.resting
  decide +kernel

/-- A state in which nothing is left undone, one channel HALTED. -/
theorem witness_ResumeOnlyLeavesHalted :
    let s := opCh 7 fun ch => { ch with state := .halted }
    (s.ch 7).state = .halted ∧ s.caughtUp ∧ (op.ch 7).state ≠ .halted := by
  refine ⟨by decide +kernel, ⟨?_, by decide +kernel, by decide +kernel, by decide +kernel, ?_, ?_⟩, by decide +kernel⟩
  · intro c h
    exact absurd h ((by decide +kernel : ∀ c, ¬ ((opCh 7 fun ch => { ch with state := .halted }).ch c).detachPending = true) c)
  · intro c h
    cases h
  · intro h
    cases h

theorem witness_StopDisarmsAndEndsTheRun :
    ((op.ch 1).state ∉ [ChState.loading, .lead, .turn, .data, .pacing, .status] ∧ (op.ch 1).stopPending = false) ∧
      ((awaiting 1 .data outRun .put).ch 1).state ∈ [ChState.loading, .lead, .turn, .data, .status] ∧
      ¬ (awaiting 1 .data outRun .put).waitsForReady 1 ∧ (waiting outRun true).waitsForReady 1 ∧
      ((pacing outRun).ch 7).state = .pacing ∧ ((pacing outRun).ch 7).run.portUsed = true ∧
      ((pacing outRun).port 7).outstanding = none := by
  unfold State.waitsForReady
  decide +kernel

/-- A STOP pending, or the hub QUIESCING, at the boundary after an answer and after an access, the port used or not. -/
theorem witness_RunsEndAtTheirBoundary :
    (∀ x ∈ [(ChState.lead, Kind.lead), (.turn, .turn), (.data, .put)],
      let s := (awaiting 3 x.1 { outRun with w0 := 0x110 } x.2).modCh 3 fun ch => { ch with stopPending := true }
      (s.ch 3).stopPending = true ∧ s.resetAsserted = false ∧ (s.ch 3).run.portUsed = true ∧
        (s.port 3).outstanding = some { kind := x.2, seq := 5, issuer := .channel } ∧ (s.ch 3).state = x.1 ∧
        (s.ch 3).run.snapshot.dir = .output ∧ (s.ch 3).run.snapshot.tolerate = true) ∧
      (∀ x ∈ [(ChState.lead, outRun, oneWord), (.data, outRun, oneWord), (.data, inpRun, { addr := 0x100, body := .write [7] }),
          (.loading, outRun, { addr := 0x40, body := .read 5 })],
        let s := { (accessing 3 x.1 x.2.1 x.2.2).modCh 3
            fun ch => { ch with run := { ch.run with portUsed := false } } with hubState := .quiescing }
        (s.ch 3).stopPending = false ∧ s.hubState = .quiescing ∧ (s.port 3).outstanding = none ∧ (s.ch 3).state = x.1 ∧
          (s.mem 3).slot = .outstanding x.2.2 9 .due ∧ (s.mem 3).need = none ∧ (s.ch 3).run.portUsed = false) ∧
      (let s := { granted (inRun 3 .loading outRun) 3 { addr := 0x40, body := .read 5 } true with hubState := .quiescing };
        (s.store.readWords 0x40 5).all StoreWord.agrees = true ∧
          (Snapshot.ofWords ((s.store.readWords 0x40 5).map StoreWord.data)).formatOk = true) ∧
      ((pacing outRun).modCh 7 fun ch => { ch with run := { ch.run with portUsed := false } }).ch 7 =
        { (pacing outRun).ch 7 with run := { ((pacing outRun).ch 7).run with portUsed := false } } := by
  decide +kernel

/-- A channel with six runs queued. -/
def queued (st : ChState) : State :=
  opCh 0 fun ch => { ch with state := st, queue := List.replicate 6 { posted := 0x20, poster := 0 } }

theorem witness_FlushReportsTheDiscardedRuns :
    (∀ st ∈ [ChState.idle, .halted], ((queued st).ch 0).queue ≠ [] ∧ ((queued st).ch 0).queue.length ≤ 6 ∧
      ((queued st).ch 0).flushCount = 0 ∧ ((queued st).log ((queued st).ch 0).domain).records.length < 16 ∧
      ((queued st).ch 0).state = st) ∧ ¬ ((queued .data).ch 0).resting ∧ (op.ch 0).queue = [] := by
  unfold Channel.resting
  decide +kernel

theorem witness_ResetChannelCancels : (directOut .ask).direct.port = 0 ∧
    ({ directOut .ask with direct := { Direct.reset with result := .busy } } : State).direct.result = .busy := by
  decide +kernel

theorem witness_PortWritesClearStrayOnly :
    op.hubState ≠ .initialising ∧ (2 : Dom) ≠ 0 ∧ (op.ch 7).domain ≠ 2 ∧ (0x80000 : Word).getLsbD 19 = true ∧
      ((awaiting 7 .lead outRun .lead).port 7).outstanding = some { kind := .lead, seq := 5, issuer := .channel } ∧
      ({ kind := .lead, seq := 5, issuer := .channel } : Transaction).matchedBy .accept 1 5 none = true ∧
      ({ kind := .lead, seq := 5, issuer := .channel } : Transaction).matchedBy .accept 1 6 none = false ∧
      (awaiting 7 .lead outRun .lead).resetAsserted = false ∧
      ((awaiting 7 .lead outRun .lead).modPort 7 fun p => { p with stray := true }).settle.reachesChannel 0 7 ∧
      ((awaiting 7 .lead outRun .lead).takeCounted (.answer 7 .accept 1 5 none)).settle.reachesChannel 0 7 := by
  unfold State.reachesChannel
  decide +kernel

theorem witness_HubCommandsSetTheHubState :
    ({ op with hubState := .quiesced } : State).hubState = .quiesced ∧ op.supplyWarn = false ∧
      ({ op with hubState := .quiesced } : State).reachesHub 0 ∧ op.hubState ≠ .quiesced ∧ 3 < (4 : Word).toNat := by
  unfold State.reachesHub
  decide +kernel

theorem witness_QuiesceEndsTheWaitingRuns :
    op.hubState = .operational ∧ (∀ c, ¬ op.waitsForReady c ∧ (op.ch c).state ≠ .pacing) ∧
      (pacing outRun).hubState = .operational ∧ ((pacing outRun).ch 7).state = .pacing ∧
      (∀ y, y ≠ 7 → ¬ (pacing outRun).waitsForReady y ∧ ((pacing outRun).ch y).state ≠ .pacing) ∧
      ((pacing outRun).ch 7).stopPending = false ∧ ((pacing outRun).ch 7).run.portUsed = true ∧
      ((pacing outRun).port 7).outstanding = none := by
  unfold State.waitsForReady
  decide +kernel

theorem witness_LogWritesActOnTheirLog :
    (op.log 3).records = [] ∧
      (let s := op.modLog 0 fun l => { l with records := sixteen };
        (s.log 0).records = flushedRecord 0 1 :: sixteen.tail ∧ (s.log 0).waiting = []) ∧
      (let s := (op.modLog 0 fun l => { l with records := sixteen, waiting := [3] }).modCh 3
          fun ch => { ch with state := .logging, held := some (flushedRecord 3 2) };
        (s.log 0).records = flushedRecord 0 1 :: sixteen.tail ∧ (s.log 0).waiting = [3] ∧
          (s.ch 3).held = some (flushedRecord 3 2) ∧ (s.ch 3).flushCount = 0 ∧ (s.ch 3).domain = 0 ∧
          sixteen.tail.length = 15 ∧ ((s.modCh 3 fun ch => { ch with flushCount := 1 }).ch 3).flushCount ≠ 0) ∧
      (16 : Word).toNat ≤ 16 ∧ 16 < (17 : Word).toNat := by
  decide +kernel

theorem witness_AssignmentWaitsForAnEmptyChannel :
    (((0x27 : Word).extractLsb' 0 3).toNat = (7 : Chan).val ∧ ((0x27 : Word).extractLsb' 4 2).toNat = (2 : Dom).val) ∧
      (op.ch 7).domain ≠ 2 ∧ ((op.ch 7).resting ∧ (op.ch 7).queue = [] ∧ (op.ch 7).held = none) ∧
      ¬ (((inRun 7 .data outRun).ch 7).resting ∧ ((inRun 7 .data outRun).ch 7).queue = [] ∧
        ((inRun 7 .data outRun).ch 7).held = none) ∧ ((opCh 7 fun ch => { ch with domain := 2 }).ch 7).domain = 2 := by
  unfold Channel.resting
  decide +kernel

theorem witness_TrapAckEmptiesTheSlot :
    op.hubState ≠ .initialising ∧ op.trap = none ∧
      (op.recordTrap (registerTrap 1 0x140)).trap = some (registerTrap 1 0x140) ∧ (3 : Dom) ≠ 0 ∧
      senderOf (.takeRun 4) = none ∧ senderOf .tick = none := by
  decide +kernel

theorem witness_ViolationsOnlyFillTheTrapSlot :
    State.reset.hubState = .initialising ∧ op.hubState ≠ .initialising ∧ (3 : Dom) ≠ 0 ∧ (op.ch 7).domain ≠ 3 ∧ (2 : Dom) ≠ 3 ∧
      ((opCh 7 fun ch => { ch with domain := 3 }).ch 7).domain = 3 ∧ (0x8FC : Offset).toNat % 4 = 0 ∧
      op.grants 2 0x8FC = false := by
  decide +kernel

theorem witness_RegisterWritesSetTheirFields :
    Size.half ≠ .word ∧ (0xFFE : Offset).toNat % 4 ≠ 0 ∧ regAt 0x000 = some .id ∧ regAt 0x8E4 = some (.log 3 (.head 5)) ∧
      regAt 0x014 = none ∧ regAt 0xFFF = none := by
  decide +kernel

/-- Sources 3 and 13 pending; 13 is routed to ALERT and 3 to NOTICE. -/
def ringing : State :=
  { op with
    events := { Events.reset with
      direct := true, channels := Events.reset.channels.set 5 true, enable := 0xFFFF, route := 0x04000080 } }

theorem witness_LinesFollowTheirSources :
    ringing.alert = true ∧ ringing.notice = true ∧ op.alert = false ∧ (ringing.readReg .evcRaw).getLsbD 13 = true ∧
      ringing.events.route.extractLsb' 26 2 = 1 ∧ (∀ m < 13, ¬ ((ringing.readReg .evcRaw).getLsbD m = true ∧
        ringing.events.enable.getLsbD m = true ∧ ringing.events.route.extractLsb' (2 * m) 2 = 1)) := by
  decide +kernel

theorem witness_RegisterMapRoundTrips : regAt 0x8E4 = some (.log 3 (.head 5)) := by decide +kernel

theorem witness_ResetsLeaveTheirValues :
    State.reset.hubState = .initialising ∧ State.reset.resetAsserted = false ∧ op.hubState ≠ .initialising := by decide

/-- The state after reset meets the invariants, and its step answers a next state. -/
theorem witness_invariants :
    State.reset.storeCanonical ∧ State.reset.timersFollowLinks ∧ State.reset.withinBounds ∧ State.reset.logsConsistent ∧
      State.reset.caughtUp ∧ step State.reset = .next State.reset := by
  refine ⟨rfl, by unfold State.timersFollowLinks; decide +kernel, by unfold State.withinBounds; decide +kernel,
    ⟨by decide +kernel, by decide +kernel, by decide +kernel, by decide +kernel, ?_⟩,
    ⟨?_, by decide +kernel, by decide +kernel, by decide +kernel, ?_, ?_⟩, rfl⟩
  · intro c _
    exact (by decide +kernel : ∀ c, (State.reset.ch c).flushCount = 0) c
  · intro c h
    exact absurd h ((by decide +kernel : ∀ c, ¬ (State.reset.ch c).detachPending = true) c)
  · intro c h
    cases h
  · intro h
    cases h

/-- Each of the named commands does undo what the statement says it may, and each is what it is named after. -/
theorem witness_OnlyNamedCommandsUndo :
    after (.stop 0 7) (opCh 7 fun ch => { ch with armed := true }) (fun t => (t.ch 7).armed) = some false ∧
      after (.resumeAll 0) { op with hubState := .quiesced } (·.hubState) = some .operational ∧
      after (.logPop 0 3) (op.modLog 3 fun l => { l with records := sixteen }) (fun t => (t.log 3).records.length) = some 15 ∧
      after (.grdTrapAck 0) (op.recordTrap (registerTrap 1 0x140)) (·.trap) = some none ∧
      after (.registerWrite 0 .word 0x104 1) op (fun t => (t.windows[0]).hostSize) = some 1 ∧
      after (.storageFailure 0 1) op (·.store) = some [(0, { data := 1, check := false })] ∧
      ([.stop 0 7, .resumeAll 0, .logPop 0 3, .grdTrapAck 0, .registerWrite 0 .word 0x104 1, .storageFailure 0 1] :
        List Instr).all Instr.wellFormed = true := by
  decide +kernel

/-- A tenant that owns one channel of eight. -/
theorem witness_TenantsReachOnlyTheirOwn :
    senderOf (.start 3 7) = some 3 ∧ (3 : Dom) ≠ 0 ∧
      after (.start 3 7) (opCh 7 fun ch => { ch with domain := 3 }) (fun t => (t.ch 7).armed) = some true ∧
      ((opCh 7 fun ch => { ch with domain := 3 }).ch 0).domain ≠ 3 := by
  decide +kernel

end Sys2Proof.Tests
end

