-- ==== Sys2Proof/Proofs/Screening.lean ====
section
/-! PROOF. Status words: the lowest-numbered matching entry acts (O32). -/

namespace Sys2Proof.Machine

/-- A word whose masked difference is zero agrees wherever the mask has a one (R138's CARE). -/
theorem xor_and_eq_zero_iff {n : Nat} (w v m : BitVec n) :
    (w ^^^ v) &&& m = 0#n ↔ ∀ i < n, m.getLsbD i = true → w.getLsbD i = v.getLsbD i := by
  constructor
  · intro h i _ hm
    have hbit : ((w ^^^ v) &&& m).getLsbD i = false := by rw [h, BitVec.getLsbD_zero]
    simpa [hm] using hbit
  · intro h
    refine BitVec.eq_of_getLsbD_eq fun i hi => ?_
    cases hm : m.getLsbD i with
    | false => simp [hm]
    | true => simp [hm, h i hi hm]

/-- R138's three conditions: the entry is valid, the channel is in its set, and the word agrees under CARE. -/
theorem ScreenEntry.matches_iff (e : ScreenEntry) (c : Chan) (w : Word) :
    e.matches c w = true ↔ e.valid = true ∧ e.channels.getLsbD c.val = true ∧
      ∀ i < 32, e.care.getLsbD i = true → w.getLsbD i = e.value.getLsbD i := by
  rw [← xor_and_eq_zero_iff]
  unfold ScreenEntry.matches
  rw [Bool.and_eq_true, Bool.and_eq_true, beq_iff_eq, and_assoc]
  rfl

theorem State.actingEntry_eq_none (s : State) (c : Chan) (w : Word) :
    s.actingEntry c w = none ↔ ∀ j : Fin 8, (s.screen[j]).matches c w = false := by
  have every : ∀ j : Fin 8, j ∈ allChans := by decide
  unfold State.actingEntry
  rw [List.find?_eq_none]
  exact ⟨fun h j => Bool.eq_false_iff.mpr (h j (every j)), fun h j _ => Bool.eq_false_iff.mp (h j)⟩

/-- The captured word is kept as delivered, whether or not an entry acts on it. -/
theorem State.capture_status (s : State) (c : Chan) (w : Word) : ((s.capture c w).ch c).run.status = w := by
  cases ha : s.actingEntry c w with
  | none => rw [s.capture_none c w ha, State.ch_modCh_same]
  | some k => rw [s.capture_acts c w k ha, State.ch_modCh_same]

/-- Settles O32, by cases on the entry that acts. -/
theorem screeningPicksTheLowestMatch : Obligations.ScreeningPicksTheLowestMatch := by
  refine ⟨ScreenEntry.matches_iff, fun s c w => ⟨s.actingEntry_eq_some c w, fun k ha => ?_, fun hnone => ?_,
    s.capture_status c w⟩⟩
  · dsimp only
    rw [s.capture_acts c w k ha, State.screenHit, satInc_16]
  · exact s.capture_none c w ((s.actingEntry_eq_none c w).mpr hnone)

end Sys2Proof.Machine
end

