-- ==== Sys2Proof/Proofs/Identification.lean ====
section
/-! PROOF. ID reads one fixed word and ignores writes, in every hub state and to every domain (O52). -/

namespace Sys2Proof.Machine

/-! ### What the Guard makes of an access to ID (R103, R104) -/

/-- R104 grants the offset of ID to every domain. -/
theorem grants_id (s : State) (d : Dom) : s.grants d (Reg.offset .id) = true := by
  have lowest : (Reg.offset .id).toNat < 4 := by decide
  simp [State.grants, lowest]

theorem State.verdict_id (s : State) (d : Dom) :
    s.verdict d (Reg.offset .id) = if s.hubState = .initialising then .initialising else .permitted := by
  simp [State.verdict, grants_id]

/-! ### The accesses themselves -/

theorem regAt_id : regAt (Reg.offset .id) = some .id := rfl

theorem State.readOffset_id (s : State) : s.readOffset (Reg.offset .id) = Config.idWord := by
  simp only [State.readOffset, regAt_id, State.readReg]

theorem State.writeOffset_id (s : State) (d : Dom) (v : Word) : s.writeOffset d (Reg.offset .id) v = s := by
  simp only [State.writeOffset, regAt_id, State.writeReg]

/-- INITIALISING is no exception: ID is what every domain still reads then (R103). -/
theorem State.readWindow_id (s : State) (d : Dom) : s.readWindow d .word (Reg.offset .id) = Config.idWord := by
  have acted : actedOn .word (Reg.offset .id) = true := by decide
  unfold State.readWindow
  rw [acted, s.verdict_id d]
  by_cases init : s.hubState = .initialising
  · simp [init, regAt_id, s.readOffset_id]
  · simp [init, s.readOffset_id]

/-- A write to ID of any width leaves the state, the trap slot included: it is not acted on, or it meets INITIALISING, or it
reaches a register that ignores it. -/
theorem State.writeWindow_id (s : State) (d : Dom) (size : Size) (v : Word) :
    s.writeWindow d size (Reg.offset .id) v = s := by
  unfold State.writeWindow State.guarded
  rw [s.verdict_id d]
  cases actedOn size (Reg.offset .id) with
  | false => rfl
  | true =>
    by_cases init : s.hubState = .initialising
    · simp [init]
    · simp [init, s.writeOffset_id]

/-- Settles O52: the read by cases on INITIALISING, the fields from the fixed word. -/
theorem idReadsTheSameAlways : Obligations.IdReadsTheSameAlways := by
  intro s d size v
  have offset_id : Reg.offset .id = 0 := by decide
  have read : s.readWindow d .word 0 = Config.idWord := offset_id ▸ s.readWindow_id d
  have ignored : s.writeWindow d size 0 v = s := offset_id ▸ s.writeWindow_id d size v
  dsimp only
  rw [read]
  refine ⟨rfl, by decide, by decide, by decide, by decide, ?_⟩
  calc exec (.registerWrite d size 0 v) s = .next (s.writeWindow d size 0 v) := rfl
    _ = .next s := by rw [ignored]

end Sys2Proof.Machine
end

section
/-! PROOF. The engine's quiet work: what every operation of chapters 3, 4 and 8 on channel `c` leaves alone beside its frame,
short of capturing a status word or offering a record. -/

namespace Sys2Proof.Machine

/-- The channel conducts a run or a service: it is neither IDLE, nor HALTED, nor in LOGGING. -/
def ChState.busy : ChState → Bool
  | .idle | .halted | .logging => false
  | _ => true

/-- The port's answer timer is stopped exactly in LINK_IDLE (R5, R6). -/
def Port.followsLink (p : Port) : Prop := p.outstanding = none ↔ p.timer = .stopped

/-- What the engine of channel `c` leaves alone as long as it offers no record and captures no status word: the logs, the
screen and a violation already held, and what the channel holds with its pending flush count; the channel keeps its state or
enters one of a run or a service. -/
structure State.Worked (c : Chan) (s t : State) : Prop where
  logs : t.logs = s.logs
  screen : t.screen = s.screen
  trap : ∀ x, s.trap = some x → t.trap = some x
  held : (t.ch c).held = (s.ch c).held
  flushCount : (t.ch c).flushCount = (s.ch c).flushCount
  state : (t.ch c).state.busy = true ∨ (t.ch c).state = (s.ch c).state
  link : (s.port c).followsLink → (t.port c).followsLink

theorem State.Worked.refl (c : Chan) (s : State) : State.Worked c s s :=
  ⟨rfl, rfl, fun _ h => h, rfl, rfl, .inr rfl, fun h => h⟩

theorem State.Worked.trans {c : Chan} {s t u : State} (h : State.Worked c s t) (k : State.Worked c t u) :
    State.Worked c s u where
  logs := k.logs.trans h.logs
  screen := k.screen.trans h.screen
  trap x hx := k.trap x (h.trap x hx)
  held := k.held.trans h.held
  flushCount := k.flushCount.trans h.flushCount
  state := by
    rcases k.state with busy | same
    · exact .inl busy
    · rw [same]; exact h.state
  link hl := k.link (h.link hl)

/-! ### The primitive updates -/

theorem State.worked_modCh (s : State) (c : Chan) (f : Channel → Channel) (hh : (f (s.ch c)).held = (s.ch c).held)
    (hf : (f (s.ch c)).flushCount = (s.ch c).flushCount)
    (hs : (f (s.ch c)).state.busy = true ∨ (f (s.ch c)).state = (s.ch c).state) : State.Worked c s (s.modCh c f) where
  logs := rfl
  screen := rfl
  trap _ h := h
  held := by rw [State.ch_modCh_same, hh]
  flushCount := by rw [State.ch_modCh_same, hf]
  state := by rw [State.ch_modCh_same]; exact hs
  link h := h

theorem State.worked_modRun (s : State) (c : Chan) (f : Run → Run) : State.Worked c s (s.modRun c f) :=
  State.worked_modCh s c _ rfl rfl (.inr rfl)

/-- The channel enters another state of its run or service. -/
theorem State.worked_enter (s : State) (c : Chan) (st : ChState) (h : st.busy = true) :
    State.Worked c s (s.modCh c fun ch => { ch with state := st }) :=
  State.worked_modCh s c _ rfl rfl (.inl h)

theorem State.worked_modPort (s : State) (c : Chan) (f : Port → Port)
    (h : (s.port c).followsLink → (f (s.port c)).followsLink) : State.Worked c s (s.modPort c f) where
  logs := rfl
  screen := rfl
  trap _ h := h
  held := rfl
  flushCount := rfl
  state := .inr rfl
  link hl := by rw [State.port_modPort_same]; exact h hl

theorem State.worked_emit (s : State) (c : Chan) (o : Output) : State.Worked c s (s.emit o) :=
  ⟨rfl, rfl, fun _ h => h, rfl, rfl, .inr rfl, fun h => h⟩

theorem State.worked_latchChannel (s : State) (c : Chan) : State.Worked c s (s.latchChannel c) :=
  ⟨rfl, rfl, fun _ h => h, rfl, rfl, .inr rfl, fun h => h⟩

theorem State.worked_request (s : State) (c : Chan) (sp : Space) (a : Access) :
    State.Worked c s (s.request c sp a) := by
  cases sp <;> exact ⟨rfl, rfl, fun _ h => h, rfl, rfl, .inr rfl, fun h => h⟩

/-- A slot that holds a violation keeps it (R116). -/
theorem State.trap_recordTrap_of_full (s : State) (t x : Trap) (h : s.trap = some x) :
    (s.recordTrap t).trap = some x := by
  unfold State.recordTrap
  rw [h]

theorem State.worked_recordTrap (s : State) (c : Chan) (t : Trap) : State.Worked c s (s.recordTrap t) where
  logs := State.logs_recordTrap s t
  screen := State.screen_recordTrap s t
  trap x h := s.trap_recordTrap_of_full t x h
  held := by rw [State.ch_recordTrap]
  flushCount := by rw [State.ch_recordTrap]
  state := .inr (by rw [State.ch_recordTrap])
  link h := by rw [State.port_recordTrap]; exact h

/-! ### Ports -/

theorem Timer.start_ne_stopped (n : Nat) : Timer.start n ≠ .stopped := by
  unfold Timer.start
  split <;> exact nofun

/-- A controller that has just ended its transaction is in LINK_IDLE with its timer stopped. -/
theorem Port.followsLink_ended (p : Port) : Port.followsLink { p with outstanding := none, timer := .stopped } :=
  ⟨fun _ => rfl, fun _ => rfl⟩

theorem State.worked_send (s : State) (c : Chan) (i : Issuer) (k : Kind) (p : Payload) :
    State.Worked c s (s.send c i k p) := by
  unfold State.send
  split
  · exact .refl c s
  · refine (State.worked_modPort s c _ fun _ => ?_).trans (State.worked_emit ..)
    exact iff_of_false nofun (Timer.start_ne_stopped _)

theorem State.worked_endTransaction (s : State) (c : Chan) : State.Worked c s (s.endTransaction c) :=
  State.worked_modPort s c _ fun _ => Port.followsLink_ended _

theorem State.worked_pulseClear (s : State) (c : Chan) : State.Worked c s (s.pulseClear c) :=
  (State.worked_endTransaction s c).trans (State.worked_emit ..)

/-! ### The end of a run -/

theorem State.worked_enterWriteback (s : State) (c : Chan) : State.Worked c s (s.enterWriteback c) :=
  (State.worked_enter s c .writeback rfl).trans (State.worked_request ..)

theorem State.worked_runSend (s : State) (c : Chan) (k : Kind) (p : Payload) : State.Worked c s (s.runSend c k p) :=
  (State.worked_modRun ..).trans (State.worked_send ..)

theorem State.worked_enterClosing (s : State) (c : Chan) (code : CloseCode) :
    State.Worked c s (s.enterClosing c code) := by
  have entered := State.worked_enter s c .closing rfl
  unfold State.enterClosing
  dsimp only
  split
  · exact entered.trans (State.worked_runSend ..)
  · exact entered.trans (State.worked_enterWriteback ..)

theorem State.worked_endEarly (s : State) (c : Chan) : State.Worked c s (s.modCh c Channel.endEarly) :=
  State.worked_modCh s c _ rfl rfl (.inr rfl)

theorem State.worked_stopEnding (s : State) (c : Chan) (o : RunOutcome) : State.Worked c s (s.stopEnding c o) :=
  ((State.worked_endEarly ..).trans (State.worked_modRun ..)).trans (State.worked_enterClosing ..)

theorem State.worked_setFault (s : State) (c : Chan) (o : RunOutcome) (step : RunStep) (a : Word) :
    State.Worked c s (s.setFault c o step a) := by
  unfold State.setFault
  exact (State.worked_endEarly ..).trans (State.worked_modRun ..)

theorem State.worked_faultAbort (s : State) (c : Chan) (o : RunOutcome) (step : RunStep) (a : Word) :
    State.Worked c s (s.faultAbort c o step a) :=
  (State.worked_setFault ..).trans (State.worked_enterClosing ..)

theorem State.worked_faultNoAnswer (s : State) (c : Chan) (step : RunStep) :
    State.Worked c s (s.faultNoAnswer c step) :=
  ((State.worked_setFault ..).trans (State.worked_pulseClear ..)).trans (State.worked_enterWriteback ..)

theorem State.worked_faultLoaded (s : State) (c : Chan) (o : RunOutcome) (a : Word) :
    State.Worked c s (s.faultLoaded c o a) :=
  (State.worked_setFault ..).trans (State.worked_enterWriteback ..)

theorem State.worked_closeUnanswered (s : State) (c : Chan) : State.Worked c s (s.closeUnanswered c) := by
  have marked : State.Worked c s ((s.pulseClear c).modFlags c fun f => { f with closeUnanswered := true }) :=
    (State.worked_pulseClear ..).trans (State.worked_modRun ..)
  refine marked.trans ?_
  unfold State.closeUnanswered
  generalize (s.pulseClear c).modFlags c _ = s1
  dsimp only
  split
  · exact State.worked_enterWriteback ..
  · exact (State.worked_modRun ..).trans (State.worked_enterWriteback ..)

/-! ### The phases -/

theorem State.worked_boundary (s : State) (c : Chan) (go : State → State) (h : State.Worked c s (go s)) :
    State.Worked c s (s.boundary c go) := by
  unfold State.boundary
  split
  · exact State.worked_stopEnding ..
  split
  · exact State.worked_stopEnding ..
  · exact h

theorem State.worked_enterStatus (s : State) (c : Chan) : State.Worked c s (s.enterStatus c) :=
  (State.worked_enter s c .status rfl).trans (State.worked_boundary _ _ _ (State.worked_runSend ..))

theorem State.worked_afterAsk (s : State) (c : Chan) : State.Worked c s (s.afterAsk c) := by
  unfold State.afterAsk
  split
  · exact State.worked_stopEnding ..
  · exact State.worked_enterClosing ..

theorem State.worked_afterPhases (s : State) (c : Chan) : State.Worked c s (s.afterPhases c) := by
  unfold State.afterPhases
  split
  · exact State.worked_enterStatus ..
  · exact State.worked_enterClosing ..

theorem State.worked_endData (s : State) (c : Chan) : State.Worked c s (s.endData c) :=
  (State.worked_modRun ..).trans (State.worked_afterPhases ..)

theorem State.worked_hailEnding (s : State) (c : Chan) : State.Worked c s (s.hailEnding c) :=
  (((State.worked_modPort s c _ fun h => h).trans (State.worked_modCh _ c _ rfl rfl (.inr rfl))).trans
    (State.worked_modRun ..)).trans (State.worked_afterPhases ..)

theorem Channel.beginRepetition_keeps (ch : Channel) : ch.beginRepetition.held = ch.held ∧
    ch.beginRepetition.flushCount = ch.flushCount ∧ ch.beginRepetition.state = ch.state := by
  unfold Channel.beginRepetition
  split <;> exact ⟨rfl, rfl, rfl⟩

theorem State.worked_sendWord (s : State) (c : Chan) : State.Worked c s (s.sendWord c) := by
  obtain ⟨held, count, state⟩ := (s.ch c).beginRepetition_keeps
  have begun : State.Worked c s (s.modCh c fun ch =>
      { ch.beginRepetition with readyTimer := .stopped, run := { ch.beginRepetition.run with outWord := none } }) :=
    State.worked_modCh s c _ held count (.inr state)
  unfold State.sendWord
  dsimp only
  split
  · exact begun.trans (State.worked_runSend ..)
  · exact begun.trans (State.worked_runSend ..)

theorem State.worked_waitReady (s : State) (c : Chan) : State.Worked c s (s.waitReady c) := by
  refine State.worked_modCh s c _ ?_ ?_ ?_
  · split <;> rfl
  · split <;> rfl
  · right; split <;> rfl

theorem State.worked_decide (s : State) (c : Chan) : State.Worked c s (s.decide c) := by
  refine State.worked_boundary _ _ _ ?_
  split
  · exact State.worked_hailEnding ..
  split
  · exact State.worked_sendWord ..
  · exact State.worked_waitReady ..

theorem State.worked_nextWord (s : State) (c : Chan) : State.Worked c s (s.nextWord c) := by
  unfold State.nextWord
  dsimp only
  split
  · exact State.worked_request ..
  · exact State.worked_decide ..

theorem State.worked_startRepetition (s : State) (c : Chan) : State.Worked c s (s.startRepetition c) :=
  (State.worked_modCh s c _ rfl rfl (.inl rfl)).trans (State.worked_nextWord ..)

theorem State.worked_repetitionDone (s : State) (c : Chan) : State.Worked c s (s.repetitionDone c) := by
  refine (State.worked_modRun ..).trans (State.worked_boundary _ _ _ ?_)
  dsimp only
  split
  · exact State.worked_endData ..
  split
  · exact State.worked_hailEnding ..
  split
  · exact State.worked_endData ..
  split
  · exact State.worked_startRepetition ..
  · exact State.worked_modCh _ c _ rfl rfl (.inl rfl)

theorem State.worked_wordDone (s : State) (c : Chan) (b : Bool) : State.Worked c s (s.wordDone c b) := by
  have counted : State.Worked c s (s.modCh c fun ch =>
      { ch with words := if b then ch.words + 1 else ch.words,
                run := { ch.run with position := ch.run.position + 1, remaining := ch.run.remaining - 1 } }) :=
    State.worked_modCh s c _ rfl rfl (.inr rfl)
  refine counted.trans ?_
  unfold State.wordDone
  generalize s.modCh c _ = s1
  dsimp only
  split
  · exact State.worked_repetitionDone ..
  · exact State.worked_boundary _ _ _ (State.worked_nextWord ..)

theorem State.worked_pacingCheck (s : State) (c : Chan) : State.Worked c s (s.pacingCheck c) := by
  refine State.worked_boundary _ _ _ ?_
  split
  · exact State.worked_hailEnding ..
  · exact .refl c s

theorem State.worked_reexamine (s : State) (c : Chan) : State.Worked c s (s.reexamine c) := by
  unfold State.reexamine
  split
  · exact State.worked_decide ..
  split
  · exact State.worked_pacingCheck ..
  · exact .refl c s

theorem State.worked_enterTurn (s : State) (c : Chan) : State.Worked c s (s.enterTurn c) :=
  (State.worked_enter s c .turn rfl).trans (State.worked_runSend ..)

theorem State.worked_afterLeads (s : State) (c : Chan) : State.Worked c s (s.afterLeads c) := by
  unfold State.afterLeads
  dsimp only
  split
  · exact State.worked_enterTurn ..
  split
  · exact State.worked_startRepetition ..
  · exact State.worked_endData ..

theorem State.worked_fetchLead (s : State) (c : Chan) : State.Worked c s (s.fetchLead c) := State.worked_request ..

theorem State.worked_leadDone (s : State) (c : Chan) : State.Worked c s (s.leadDone c) := by
  refine (State.worked_modRun ..).trans (State.worked_boundary _ _ _ ?_)
  split
  · exact State.worked_afterLeads ..
  · exact State.worked_fetchLead ..

theorem State.worked_leaveLoading (s : State) (c : Chan) : State.Worked c s (s.leaveLoading c) := by
  unfold State.leaveLoading
  split
  · exact State.worked_afterLeads ..
  · exact (State.worked_enter s c .lead rfl).trans (State.worked_fetchLead ..)

theorem State.worked_checkRanges (s : State) (c : Chan) : State.Worked c s (s.checkRanges c) := by
  unfold State.checkRanges
  dsimp only
  split
  · exact (State.worked_recordTrap ..).trans (State.worked_faultLoaded ..)
  split
  · exact (State.worked_recordTrap ..).trans (State.worked_faultLoaded ..)
  · exact (State.worked_modRun ..).trans (State.worked_boundary _ _ _ (State.worked_leaveLoading ..))

theorem State.worked_descriptorRead (s : State) (c : Chan) (ws : List Word) :
    State.Worked c s (s.descriptorRead c ws) := by
  unfold State.descriptorRead
  dsimp only
  split
  · exact (State.worked_modRun ..).trans (State.worked_checkRanges ..)
  · exact (State.worked_modRun ..).trans (State.worked_faultLoaded ..)

theorem State.worked_beginService (s : State) (c : Chan) : State.Worked c s (s.beginService c) :=
  (State.worked_modCh s c _ rfl rfl (.inl rfl)).trans (State.worked_send ..)

theorem State.worked_runAnswer (s : State) (c : Chan) (step : RunStep) (res : LinkResult)
    (accepted : Word → State → State) (tolerated : State → State) (ha : ∀ w, State.Worked c s (accepted w s))
    (ht : ∀ u, State.Worked c u (tolerated u)) : State.Worked c s (s.runAnswer c step res accepted tolerated) := by
  unfold State.runAnswer
  split
  · exact ha _
  · split
    · exact (State.worked_modRun ..).trans (ht _)
    · exact State.worked_faultAbort ..
  · exact State.worked_faultNoAnswer ..

/-! ### The course of an engine step -/

/-- A capture leaves all but the screen alone. -/
theorem State.capture_keeps (s : State) (c : Chan) (w : Word) :
    (s.capture c w).logs = s.logs ∧ (s.capture c w).trap = s.trap ∧ (s.capture c w).ports = s.ports ∧
      ((s.capture c w).ch c).held = (s.ch c).held ∧ ((s.capture c w).ch c).flushCount = (s.ch c).flushCount ∧
      ((s.capture c w).ch c).state = (s.ch c).state := by
  cases ha : s.actingEntry c w with
  | none =>
    rw [s.capture_none c w ha, State.ch_modCh_same]
    exact ⟨rfl, rfl, rfl, rfl, rfl, rfl⟩
  | some k =>
    rw [s.capture_acts c w k ha, State.ch_modCh_same]
    exact ⟨rfl, rfl, rfl, rfl, rfl, rfl⟩

/-- What an answer or an access brings about, whatever the state of the channel: perhaps a status word is captured, then the
engine works, and at the very end it may offer the record of a run or service that is over. In LOGGING it does nothing. -/
def State.Coursed (c : Chan) (s t : State) : Prop :=
  ∃ u v, (u = s ∨ ∃ w, u = s.capture c w) ∧ State.Framed c u v ∧ State.Worked c u v ∧
    ((s.ch c).state = .logging → (v.ch c).state = .logging) ∧
    (t = v ∨ ((s.ch c).state.busy = true ∧ ∃ r, t = v.logRecord c r))

theorem ChState.ne_logging_of_busy {st : ChState} (b : st.busy = true) : st ≠ .logging := by
  rintro rfl
  cases b

/-- Work that captures and offers nothing. -/
theorem State.Coursed.ofWork {c : Chan} {s t : State} (f : State.Framed c s t) (w : State.Worked c s t)
    (l : (s.ch c).state = .logging → (t.ch c).state = .logging) : State.Coursed c s t :=
  ⟨s, t, .inl rfl, f, w, l, .inl rfl⟩

/-- Work of a channel that is not in LOGGING. -/
theorem State.Coursed.ofBusy {c : Chan} {s t : State} (f : State.Framed c s t) (w : State.Worked c s t)
    (b : (s.ch c).state ≠ .logging) : State.Coursed c s t := .ofWork f w fun l => absurd l b

theorem State.Coursed.refl (c : Chan) (s : State) : State.Coursed c s s := .ofWork (.refl c s) (.refl c s) id

/-- Work before which nothing is captured, and after which a record is offered. -/
theorem State.Coursed.ofLogged {c : Chan} {s t : State} (f : State.Framed c s t) (w : State.Worked c s t)
    (b : (s.ch c).state.busy = true) (r : Record) : State.Coursed c s (t.logRecord c r) :=
  ⟨s, t, .inl rfl, f, w, fun l => absurd l (ChState.ne_logging_of_busy b), .inr ⟨b, r, rfl⟩⟩

theorem State.coursed_faultUnloaded (s : State) (c : Chan) (o : RunOutcome) (a : Word)
    (b : (s.ch c).state.busy = true) : State.Coursed c s (s.faultUnloaded c o a) :=
  .ofLogged (State.framed_setFault ..) (State.worked_setFault ..) b _

theorem State.coursed_serviceAnswer (s : State) (c : Chan) (res : LinkResult) (b : (s.ch c).state.busy = true) :
    State.Coursed c s (s.serviceAnswer c res) := by
  cases res with
  | accept w =>
    exact ⟨_, _, .inr ⟨w, rfl⟩, .refl .., .refl .., fun l => absurd l (ChState.ne_logging_of_busy b), .inr ⟨b, _, rfl⟩⟩
  | refuse => exact .ofLogged (.refl ..) (.refl ..) b _
  | noAnswer => exact .ofLogged (State.framed_pulseClear ..) (State.worked_pulseClear ..) b _

/-- The answer to a run's ASK: only an ACCEPT captures a word (R58). -/
theorem State.coursed_askAnswer (s : State) (c : Chan) (res : LinkResult) (b : (s.ch c).state ≠ .logging) :
    State.Coursed c s (s.runAnswer c .ask res (fun w s => (s.capture c w).afterAsk c) fun s => s.afterAsk c) := by
  cases res with
  | accept w =>
    exact ⟨_, _, .inr ⟨w, rfl⟩, State.framed_afterAsk .., State.worked_afterAsk .., fun l => absurd l b, .inl rfl⟩
  | refuse =>
    unfold State.runAnswer
    dsimp only
    split
    · exact .ofBusy ((State.framed_modRun ..).trans (State.framed_afterAsk ..))
        ((State.worked_modRun ..).trans (State.worked_afterAsk ..)) b
    · exact .ofBusy (State.framed_faultAbort ..) (State.worked_faultAbort ..) b
  | noAnswer => exact .ofBusy (State.framed_faultNoAnswer ..) (State.worked_faultNoAnswer ..) b

/-- The result of the channel's transaction, by the state of the channel (R46, R59, R145). -/
theorem State.coursed_channelResult (s : State) (c : Chan) (res : LinkResult) :
    State.Coursed c s (s.channelResult c res) := by
  have framed := State.framed_channelResult s c res
  unfold State.channelResult at framed ⊢
  cases h : (s.ch c).state <;> simp only [h] at framed ⊢
  case lead =>
    exact .ofBusy framed (State.worked_runAnswer _ _ _ _ _ _ (fun _ => State.worked_leadDone ..) fun u =>
      State.worked_leadDone u c) (by rw [h]; exact nofun)
  case turn =>
    exact .ofBusy framed (State.worked_runAnswer _ _ _ _ _ _
      (fun _ => State.worked_boundary _ _ _ (State.worked_startRepetition ..))
      fun u => State.worked_boundary u _ _ (State.worked_startRepetition ..)) (by rw [h]; exact nofun)
  case data =>
    refine .ofBusy framed (State.worked_runAnswer _ _ _ _ _ _ (fun _ => ?_) fun u => State.worked_wordDone u c _)
      (by rw [h]; exact nofun)
    split
    · exact State.worked_wordDone ..
    · exact State.worked_request ..
  case status => exact State.coursed_askAnswer s c res (by rw [h]; exact nofun)
  case closing =>
    refine .ofBusy framed ?_ (by rw [h]; exact nofun)
    split
    · exact State.worked_closeUnanswered ..
    · exact State.worked_enterWriteback ..
  case servicing => exact State.coursed_serviceAnswer s c res (by rw [h]; rfl)
  all_goals exact .refl c s

/-- The result of the channel's access, by the state of the channel (R45, R48, R53, R60, R79). -/
theorem State.coursed_accessResult (s : State) (c : Chan) (res : AccessResult) :
    State.Coursed c s (s.accessResult c res) := by
  have framed := State.framed_accessResult s c res
  unfold State.accessResult at framed ⊢
  cases h : (s.ch c).state <;> cases res <;> simp only [h] at framed ⊢
  case loading.ok => exact .ofBusy framed (State.worked_descriptorRead ..) (by rw [h]; exact nofun)
  case loading.failed => exact State.coursed_faultUnloaded s c _ _ (by rw [h]; rfl)
  case lead.ok =>
    exact .ofBusy framed (State.worked_boundary _ _ _ (State.worked_runSend ..)) (by rw [h]; exact nofun)
  case lead.failed => exact .ofBusy framed (State.worked_faultAbort ..) (by rw [h]; exact nofun)
  case data.ok =>
    refine .ofBusy framed ?_ (by rw [h]; exact nofun)
    split
    · exact (State.worked_modRun ..).trans (State.worked_decide ..)
    · exact State.worked_wordDone ..
  case data.failed => exact .ofBusy framed (State.worked_faultAbort ..) (by rw [h]; exact nofun)
  case writeback.ok => exact .ofLogged (.refl ..) (.refl ..) (by rw [h]; rfl) _
  case writeback.failed => exact .ofLogged (State.framed_modFlags ..) (State.worked_modRun ..) (by rw [h]; rfl) _
  all_goals exact .refl c s

/-- The beginning of a load: the five-word read is asked for, or the run ends at once (R45 step 1). -/
theorem State.coursed_beginLoad (s : State) (c : Chan) (b : (s.ch c).state.busy = true) :
    State.Coursed c s (s.beginLoad c) := by
  unfold State.beginLoad
  dsimp only
  split
  · exact .ofBusy ((State.framed_modRun ..).trans (State.framed_request ..))
      ((State.worked_modRun ..).trans (State.worked_request ..)) (ChState.ne_logging_of_busy b)
  · exact .ofLogged ((State.framed_recordTrap ..).trans (State.framed_setFault ..))
      ((State.worked_recordTrap ..).trans (State.worked_setFault ..)) b _

/-- A waiting channel applies its rule again; any other is left alone (R51, R56). -/
theorem State.coursed_reexamine (s : State) (c : Chan) : State.Coursed c s (s.reexamine c) := by
  refine .ofWork (State.framed_reexamine s c) (State.worked_reexamine s c) fun logging => ?_
  rw [s.reexamine_other c (fun waits => by have := waits.1; rw [logging] at this; cases this) (by rw [logging]; exact nofun)]
  exact logging

/-- A new hail rise, and what a waiting channel makes of it (R143, R51, R56). -/
theorem State.coursed_hailRise (s : State) (c : Chan) : State.Coursed c s ((s.newHail c).reexamine c) := by
  unfold State.newHail
  split
  next serves =>
    have idle : (s.ch c).state = .idle := by
      simp only [State.servesHail, Bool.and_eq_true, beq_iff_eq] at serves
      exact serves.1.1.1.1
    exact .ofBusy ((State.framed_beginService ..).trans (State.framed_reexamine ..))
      ((State.worked_beginService ..).trans (State.worked_reexamine ..)) (by rw [idle]; exact nofun)
  next =>
    refine .ofWork ((State.framed_latchChannel ..).trans (State.framed_reexamine ..))
      ((State.worked_latchChannel ..).trans (State.worked_reexamine ..)) fun l => ?_
    rw [State.reexamine_other _ c (fun waits => by have := waits.1; rw [State.ch_latchChannel, l] at this; cases this)
      (by rw [State.ch_latchChannel, l]; exact nofun)]
    exact l

theorem State.Coursed.framed {c : Chan} {s t : State} (h : State.Coursed c s t) : State.Framed c s t := by
  obtain ⟨u, v, captured, framed, -, -, logged⟩ := h
  have first : State.Framed c s u := by
    rcases captured with rfl | ⟨w, rfl⟩
    · exact .refl c u
    · exact State.framed_capture ..
  rcases logged with rfl | ⟨_, r, rfl⟩
  · exact first.trans framed
  · exact (first.trans framed).trans (State.framed_logRecord ..)

end Sys2Proof.Machine
end

section
/-! PROOF. The register map and the offsets agree (O53). -/

namespace Sys2Proof.Machine

theorem Reg.offsetNat_lt (r : Reg) : r.offsetNat < 4096 := by
  rcases r with _ | _ | _ | _ | _ | t | t | t | t | _ | w | _ | _ | _ | _ | _ | _ | _ | _ | _ | ⟨k, w⟩ | _ | _ | _ | _ | _ |
    ⟨c, r⟩ | ⟨d, r⟩
  case ch => cases r <;> (simp only [Reg.offsetNat, ChReg.rel]; omega)
  case log => cases r <;> (simp only [Reg.offsetNat, LogReg.rel]; omega)
  all_goals (simp only [Reg.offsetNat]; omega)

theorem Reg.toNat_offset (r : Reg) : r.offset.toNat = r.offsetNat := by
  rw [Reg.offset, BitVec.toNat_ofNat]
  exact Nat.mod_eq_of_lt r.offsetNat_lt

theorem Reg.offsetNat_mod_four (r : Reg) : r.offsetNat % 4 = 0 := by
  rcases r with _ | _ | _ | _ | _ | t | t | t | t | _ | w | _ | _ | _ | _ | _ | _ | _ | _ | _ | ⟨k, w⟩ | _ | _ | _ | _ | _ |
    ⟨c, r⟩ | ⟨d, r⟩
  case ch => cases r <;> (simp only [Reg.offsetNat, ChReg.rel]; omega)
  case log => cases r <;> (simp only [Reg.offsetNat, LogReg.rel]; omega)
  all_goals simp only [Reg.offsetNat] <;> omega

/-- The map gives every register back from its own offset: each kind of register is a small finite family. -/
theorem regAt_offset (r : Reg) : regAt r.offset = some r := by
  rcases r with _ | _ | _ | _ | _ | t | t | t | t | _ | w | _ | _ | _ | _ | _ | _ | _ | _ | _ | ⟨k, w⟩ | _ | _ | _ | _ | _ |
    ⟨c, r⟩ | ⟨d, r⟩
  case hostBase | hostSize | stageBase | stageSize => revert t; decide
  case trapSlot => revert w; decide
  case screen => revert k w; decide
  case ch => cases r <;> revert c <;> decide
  case log =>
    rcases r with _ | _ | _ | k
    case head => revert d k; decide
    all_goals revert d; decide
  all_goals decide

/-! ### Back from an offset, region by region -/

theorem offsetNat_of_hubRegAt {o : Nat} {r : Reg} (h : hubRegAt o = some r) : r.offsetNat = o := by
  unfold hubRegAt at h
  split at h <;> cases h <;> rfl

theorem offsetNat_of_windowRegAt {t : Fin 3} {rel : Nat} {r : Reg} (h : windowRegAt t rel = some r) :
    r.offsetNat = 0x100 + 0x10 * t.val + rel := by
  unfold windowRegAt at h
  split at h <;> cases h <;> simp only [Reg.offsetNat] <;> omega

theorem offsetNat_of_guardRegAt {o : Nat} {r : Reg} (ho : 0x100 ≤ o) (h : guardRegAt o = some r) : r.offsetNat = o := by
  unfold guardRegAt at h
  split at h
  · have := offsetNat_of_windowRegAt h; simp at this; omega
  split at h
  · have := offsetNat_of_windowRegAt h; simp at this; omega
  split at h
  · have := offsetNat_of_windowRegAt h; simp at this; omega
  · split at h <;> cases h <;> rfl

theorem offsetNat_of_evcRegAt {o : Nat} {r : Reg} (h : evcRegAt o = some r) : r.offsetNat = o := by
  unfold evcRegAt at h
  split at h <;> cases h <;> rfl

theorem offsetNat_of_screenDirectRegAt {o : Nat} {r : Reg} (ho : 0x300 ≤ o) (h : screenDirectRegAt o = some r) :
    r.offsetNat = o := by
  unfold screenDirectRegAt at h
  split at h
  · split at h <;> cases h
    simp only [Reg.offsetNat, Fin.ofNat]
    omega
  · split at h <;> cases h <;> rfl

theorem rel_of_chRegAt {rel : Nat} {r : ChReg} (h : chRegAt rel = some r) : r.rel = rel := by
  unfold chRegAt at h
  split at h <;> cases h <;> rfl

theorem rel_of_logRegAt {rel : Nat} {r : LogReg} (h : logRegAt rel = some r) : r.rel = rel := by
  unfold logRegAt at h
  split at h <;> cases h <;> rfl

theorem offsetNat_of_regAt {off : Offset} {r : Reg} (h : regAt off = some r) : r.offsetNat = off.toNat := by
  unfold regAt at h
  dsimp only at h
  split at h
  · exact offsetNat_of_hubRegAt h
  split at h
  · exact offsetNat_of_guardRegAt (by omega) h
  split at h
  · exact offsetNat_of_evcRegAt h
  split at h
  · exact offsetNat_of_screenDirectRegAt (by omega) h
  split at h
  · obtain ⟨reg, found, rfl⟩ := Option.map_eq_some_iff.mp h
    have := rel_of_chRegAt found
    simp only [Reg.offsetNat, Fin.ofNat]
    omega
  split at h
  · obtain ⟨reg, found, rfl⟩ := Option.map_eq_some_iff.mp h
    have := rel_of_logRegAt found
    simp only [Reg.offsetNat, Fin.ofNat]
    omega
  · cases h

theorem offset_of_regAt {off : Offset} {r : Reg} (h : regAt off = some r) : r.offset = off :=
  BitVec.eq_of_toNat_eq (r.toNat_offset.trans (offsetNat_of_regAt h))

/-- Settles O53: one direction by the families of registers, the other by the regions of the window. -/
theorem registerMapRoundTrips : Obligations.RegisterMapRoundTrips :=
  ⟨fun r => ⟨regAt_offset r, r.toNat_offset, r.offsetNat_mod_four⟩, fun _ _ h => offset_of_regAt h⟩

end Sys2Proof.Machine
end

section
/-! PROOF. Everything a command can do: a host access reaches one register, records a violation, waits at the arbiter or does
nothing; an event lets one channel's engine work; a few rows act on the whole hub. -/

namespace Sys2Proof.Machine

/-! ### The register write that a row spells (R85, R149, R177) -/

/-- The word of DIR_COMMAND that spells a direct command (section 12.5). -/
def directCommandWord (p : Chan) (k : BitVec 3) (last : Bool) (code : CloseCode) : Word :=
  (0 : BitVec 22) ++ flag (code == .abort) ++ flag last ++ (0 : BitVec 1) ++ k ++ (0 : BitVec 1) ++ BitVec.ofNat 3 p.val

theorem State.directWord_spelled (s : State) (p : Chan) (k : BitVec 3) (last : Bool) (code : CloseCode) :
    s.directWord (directCommandWord p k last code) = s.directCommand p k last code := by
  have port : Fin.ofNat 8 ((directCommandWord p k last code).extractLsb' 0 3).toNat = p := by
    revert p k last; cases code <;> decide
  have kind : (directCommandWord p k last code).extractLsb' 4 3 = k := by
    revert p k last; cases code <;> decide
  have mark : (directCommandWord p k last code).getLsbD 8 = last := by
    revert p k last; cases code <;> decide
  have close : (if (directCommandWord p k last code).getLsbD 9 then CloseCode.abort else .normal) = code := by
    revert p k last; cases code <;> decide
  unfold State.directWord
  rw [port, kind, mark, close]

/-- The register write that a row other than REGISTER_WRITE spells. -/
def writeOf : Instr → Option (Dom × Reg × Word)
  | .post d c v => some (d, .ch c .post, v)
  | .start d c => some (d, .ch c .command, 1)
  | .stop d c => some (d, .ch c .command, 2)
  | .flush d c => some (d, .ch c .command, 3)
  | .resume d c => some (d, .ch c .command, 4)
  | .resetChannel d c => some (d, .ch c .command, 5)
  | .detach d c => some (d, .ch c .command, 6)
  | .attach d c => some (d, .ch c .command, 7)
  | .chCommandUnassigned d c v => some (d, .ch c .command, v)
  | .chPortStrayClear d c => some (d, .ch c .port, 0x00080000)
  | .hubReset d => some (d, .hubCommand, 1)
  | .enterQuiesce d => some (d, .hubCommand, 2)
  | .resumeAll d => some (d, .hubCommand, 3)
  | .hubCommandUnassigned d v => some (d, .hubCommand, v)
  | .logPop d l => some (d, .log l .pop, 0)
  | .logThresholdWrite d l v => some (d, .log l .threshold, v)
  | .grdAssign d v => some (d, .assign, v)
  | .grdTrapAck d => some (d, .trapAck, 0)
  | .scrHitsClear d k => some (d, .screen k 3, 0)
  | .evcClear d v => some (d, .evcClear, v)
  | .directLead d p => some (d, .dirCommand, directCommandWord p 1 false .normal)
  | .directTurn d p => some (d, .dirCommand, directCommandWord p 2 false .normal)
  | .directPut d p last => some (d, .dirCommand, directCommandWord p 3 last .normal)
  | .directGet d p last => some (d, .dirCommand, directCommandWord p 4 last .normal)
  | .directAsk d p => some (d, .dirCommand, directCommandWord p 5 false .normal)
  | .directClose d p code => some (d, .dirCommand, directCommandWord p 6 false code)
  | .directInvalidKind d p k => some (d, .dirCommand, directCommandWord p k false .normal)
  | _ => none

/-- A row that spells a register write is that write. -/
theorem exec_of_write {i : Instr} {d : Dom} {r : Reg} {v : Word} (h : writeOf i = some (d, r, v)) (s : State) :
    exec i s = .next (s.hostWrite d r fun u => u.writeReg d r v) := by
  cases i <;> simp only [writeOf, Option.some.injEq, Prod.mk.injEq, reduceCtorEq] at h <;>
    obtain ⟨rfl, rfl, rfl⟩ := h
  case directLead | directTurn | directPut | directGet | directAsk | directClose | directInvalidKind =>
    simp only [State.writeReg, State.directWord_spelled]; rfl
  all_goals rfl

/-- The command is a write of the domain to the register: a row that spells it, or a write at its offset. -/
def writesTo (i : Instr) (d : Dom) (r : Reg) (v : Word) : Prop :=
  writeOf i = some (d, r, v) ∨ i = .registerWrite d .word r.offset v ∨
    i = .registerAccessViolation d r.offset (.write v)

theorem sender_of_writesTo {i : Instr} {d : Dom} {r : Reg} {v : Word} (h : writesTo i d r v) :
    senderOf i = some d := by
  rcases h with h | rfl | rfl
  · cases i <;> simp only [writeOf, Option.some.injEq, Prod.mk.injEq, reduceCtorEq] at h <;>
      obtain ⟨rfl, rfl, rfl⟩ := h <;> rfl
  · rfl
  · rfl

/-! ### The inversion of a step -/

/-- What a command can make of a state. -/
inductive State.Does (s : State) : Instr → State → Prop
  /-- Nothing: an event that cannot happen, a write that meets INITIALISING, an unmapped offset. -/
  | same (i : Instr) : s.Does i s
  /-- A host write that the Guard permits reaches its register. -/
  | written {i : Instr} {d : Dom} {r : Reg} {v : Word} (w : writesTo i d r v) (past : s.hubState ≠ .initialising)
      (granted : s.grants d r.offset = true) : s.Does i (s.writeReg d r v)
  /-- A host access violates. -/
  | violated {i : Instr} {d : Dom} (t : Trap) (sender : senderOf i = some d) : s.Does i (s.recordTrap t)
  /-- A host access is answered at once. -/
  | answered {i : Instr} {d : Dom} (o : Output) (sender : senderOf i = some d) : s.Does i (s.emit o)
  /-- A host access violates and is answered at once. -/
  | refused {i : Instr} {d : Dom} (t : Trap) (o : Output) (sender : senderOf i = some d) :
      s.Does i ((s.recordTrap t).emit o)
  /-- A host access waits for the store. -/
  | waits {i : Instr} {d : Dom} (r : HostRequest) (sender : senderOf i = some d) :
      s.Does i (State.settle { s with hostWaiting := s.hostWaiting ++ [r] })
  /-- A flag or a level of a port changes. -/
  | level {i : Instr} (c : Chan) (f : Port → Port) (event : senderOf i = none)
      (link : ∀ p, p.followsLink → (f p).followsLink) : s.Does i (s.modPort c f)
  /-- A direct transaction ends. -/
  | direct {i : Instr} (c : Chan) (res : LinkResult) (event : senderOf i = none) :
      s.Does i ((s.endTransaction c).directResult res).settle
  /-- Something changes at the port, and the channel's engine works. -/
  | atPort {i : Instr} (c : Chan) (f : Port → Port) (u : State) (event : senderOf i = none)
      (link : ∀ p, p.followsLink → (f p).followsLink) (course : State.Coursed c (s.modPort c f) u) : s.Does i u.settle
  /-- The channel takes the run at the head of its queue and begins its load. -/
  | taken {i : Instr} (c : Chan) (e : QueueEntry) (rest : List QueueEntry) (u : State) (event : senderOf i = none)
      (queue : (s.ch c).queue = e :: rest) (can : s.canTake c = true)
      (course : State.Coursed c (s.modCh c fun ch => ch.take e rest) u) : s.Does i u.settle
  /-- The presented request is taken. -/
  | issued {i : Instr} (c : Chan) (a : Access) (event : senderOf i = none) : s.Does i (s.issue c a).settle
  /-- A slot of the memory port is freed, and the channel's engine works on what it received. -/
  | accessed {i : Instr} (c : Chan) (u : State) (event : senderOf i = none)
      (course : State.Coursed c (s.modMem c MemSlot.free) u) : s.Does i u.settle
  /-- The host's access completes in the store. -/
  | hostStored (r : HostRequest) : s.Does .storeAccessDone (State.hostAccessDone { s with granted := none } r).settle
  /-- A channel's access completes in the store, and the channel's engine works on what it received. -/
  | stored (c : Chan) (a : Access) (u : State)
      (course : State.Coursed c { s with granted := none, store := a.storeEffect s.store } u) :
      s.Does .storeAccessDone u.settle
  | ticked : s.Does .tick s.tickAll
  | poweredOn : s.Does .powerOnReset s.powerOn
  | released : s.Does .resetRelease { s with resetAsserted := false }
  | initialised (h : s.hubState = .initialising) : s.Does .initialisationEnd s.endInitialisation
  | quiesces (h : s.hubState = .operational) :
      s.Does .supplyWarnAssert (State.enterQuiescing { s with supplyWarn := true }).settle
  | warned (i : Instr) (event : senderOf i = none) (warn : Bool) : s.Does i { s with supplyWarn := warn }
  | broken (w : StoreIndex) (v : Word) :
      s.Does (.storageFailure w v) { s with store := s.store.put w.toNat (StoreWord.disagreeing v) }

/-! ### Host accesses -/

theorem State.does_hostWrite (s : State) {i : Instr} {d : Dom} {r : Reg} {v : Word} (w : writesTo i d r v) :
    s.Does i (s.hostWrite d r fun u => u.writeReg d r v) := by
  by_cases past : s.hubState = .initialising
  · rw [s.hostWrite_initialising d r _ past]
    exact .same i
  · cases granted : s.grants d r.offset with
    | true =>
      rw [s.hostWrite_granted d r _ past granted]
      exact .written w past granted
    | false =>
      rw [s.hostWrite_violation d r _ past granted]
      exact .violated _ (sender_of_writesTo w)

/-- A write at an unmapped offset reaches nothing. -/
theorem State.does_guarded_same (s : State) {i : Instr} {d : Dom} (off : Offset) (sender : senderOf i = some d) :
    s.Does i (s.guarded d off fun u => u) := by
  unfold State.guarded
  split
  · exact .same i
  · exact .violated _ sender
  · exact .same i

theorem State.does_writeWindow (s : State) {i : Instr} {d : Dom} (size : Size) (off : Offset) (v : Word)
    (sender : senderOf i = some d)
    (w : actedOn size off = true → ∀ r, regAt off = some r → writesTo i d r v) : s.Does i (s.writeWindow d size off v) := by
  unfold State.writeWindow
  cases acted : actedOn size off with
  | false => exact .same i
  | true =>
    rw [if_neg (by simp)]
    cases found : regAt off with
    | none =>
      have unmapped : (fun u : State => u.writeOffset d off v) = fun u => u := by
        funext u; simp only [State.writeOffset, found]
      rw [unmapped]
      exact s.does_guarded_same off sender
    | some r =>
      have mapped : (fun u : State => u.writeOffset d off v) = fun u => u.writeReg d r v := by
        funext u; simp only [State.writeOffset, found]
      rw [mapped, ← offset_of_regAt found]
      exact s.does_hostWrite (w acted r found)

theorem State.does_registerWrite (s : State) (d : Dom) (size : Size) (off : Offset) (v : Word) :
    s.Does (.registerWrite d size off v) (s.writeWindow d size off v) := by
  refine s.does_writeWindow size off v rfl fun acted r found => .inr (.inl ?_)
  obtain ⟨word, -⟩ := (Bool.and_eq_true _ _).mp acted
  rw [offset_of_regAt found, eq_of_beq word]

theorem State.does_accessViolation (s : State) (d : Dom) (off : Offset) (a : HostAccess) :
    ∃ t, exec (.registerAccessViolation d off a) s = .next t ∧ s.Does (.registerAccessViolation d off a) t := by
  cases a with
  | write v =>
    refine ⟨_, rfl, s.does_writeWindow .word off v rfl fun _ r found => .inr (.inr ?_)⟩
    rw [offset_of_regAt found]
  | read =>
    refine ⟨_, rfl, ?_⟩
    split
    · unfold State.guarded
      split
      · exact .answered _ rfl
      · exact .refused _ _ rfl
      · exact .answered _ rfl
    · exact .answered _ rfl

theorem State.does_apertureAccess (s : State) {i : Instr} {d : Dom} (size : Size) (off : ApertureOffset) (a : HostAccess)
    (sender : senderOf i = some d) : s.Does i (s.apertureAccess d size off a) := by
  unfold State.apertureAccess
  dsimp only
  split
  · exact .answered _ sender
  split
  · exact .answered _ sender
  split
  · exact .refused _ _ sender
  · exact .waits _ sender

/-! ### Events at a port -/

theorem State.does_deliver (s : State) {i : Instr} (c : Chan) (t : Transaction) (res : LinkResult)
    (event : senderOf i = none) : s.Does i (s.deliver c t res).settle := by
  unfold State.deliver
  split
  · exact .atPort c _ _ event (fun p _ => p.followsLink_ended) (State.coursed_channelResult (s.endTransaction c) c res)
  · exact .direct c res event

theorem State.does_answer (s : State) (c : Chan) (code : AnswerCode) (kind : BitVec 3) (seq : BitVec 8)
    (word : Option Word) : ∃ t, exec (.answer c code kind seq word) s = .next t ∧ s.Does (.answer c code kind seq word) t := by
  have stray : s.Does (.answer c code kind seq word) (s.strayAnswer c) := .level c _ rfl fun _ h => h
  simp only [exec, execAnswer]
  split
  · exact ⟨s, rfl, .same _⟩
  split
  · exact ⟨_, rfl, stray⟩
  split
  · exact ⟨_, rfl, s.does_deliver c _ _ rfl⟩
  · exact ⟨_, rfl, stray⟩

theorem State.does_noAnswer (s : State) (c : Chan) : ∃ t, exec (.noAnswer c) s = .next t ∧ s.Does (.noAnswer c) t := by
  simp only [exec, execNoAnswer]
  split
  · exact ⟨s, rfl, .same _⟩
  split
  · exact ⟨_, rfl, s.does_deliver c _ _ rfl⟩
  · exact ⟨s, rfl, .same _⟩

theorem State.does_hailRise (s : State) (c : Chan) :
    ∃ t, exec (.hailRise c) s = .next t ∧ s.Does (.hailRise c) t := by
  simp only [exec, execHailRise]
  split
  · exact ⟨s, rfl, .same _⟩
  split
  · exact ⟨_, rfl, .level c _ rfl fun _ h => h⟩
  · refine ⟨_, rfl, .atPort c (fun p => { p with hail := true, hailSeen := true }) _ rfl (fun _ h => h) ?_⟩
    split
    · exact State.coursed_reexamine _ c
    · exact State.coursed_hailRise _ c

theorem State.does_hailFall (s : State) (c : Chan) :
    ∃ t, exec (.hailFall c) s = .next t ∧ s.Does (.hailFall c) t := by
  simp only [exec, execHailFall]
  split
  · exact ⟨s, rfl, .same _⟩
  split
  · exact ⟨_, rfl, .level c _ rfl fun _ h => h⟩
  · exact ⟨_, rfl, .level c _ rfl fun _ h => h⟩

/-- Engine work that no change at the port precedes. -/
theorem State.does_work (s : State) {i : Instr} (c : Chan) (u : State) (event : senderOf i = none)
    (course : State.Coursed c s u) : s.Does i u.settle :=
  .atPort c (fun p => p) u event (fun _ h => h) (by
    rw [show (s.modPort c fun p => p) = s by unfold State.modPort; rw [Vector.set_getElem_self]]
    exact course)

theorem State.does_notReady (s : State) (c : Chan) :
    ∃ t, exec (.notReady c) s = .next t ∧ s.Does (.notReady c) t := by
  simp only [exec, execNotReady]
  split
  next due =>
    have active : (s.ch c).state ≠ .logging := by rw [due.1]; exact nofun
    split
    · exact ⟨_, rfl, s.does_work c _ rfl (.ofBusy (State.framed_decide s c) (State.worked_decide s c) active)⟩
    · exact ⟨_, rfl, s.does_work c _ rfl (.ofBusy (State.framed_faultAbort ..) (State.worked_faultAbort ..) active)⟩
  · exact ⟨s, rfl, .same _⟩

theorem State.does_paceExpiry (s : State) (c : Chan) :
    ∃ t, exec (.paceExpiry c) s = .next t ∧ s.Does (.paceExpiry c) t := by
  simp only [exec, execPaceExpiry]
  split
  next due =>
    have active : (s.ch c).state ≠ .logging := by rw [due.1]; exact nofun
    refine ⟨_, rfl, s.does_work c _ rfl (.ofBusy (State.framed_boundary _ _ _ ?_) (State.worked_boundary _ _ _ ?_) active)⟩
    · split
      · exact State.framed_hailEnding ..
      · exact (State.framed_modCh s c _ (by constructor <;> rfl)).trans (State.framed_startRepetition ..)
    · split
      · exact State.worked_hailEnding ..
      · exact (State.worked_modCh s c _ rfl rfl (.inr rfl)).trans (State.worked_startRepetition ..)
  · exact ⟨s, rfl, .same _⟩

theorem State.does_takeRun (s : State) (c : Chan) :
    ∃ t, exec (.takeRun c) s = .next t ∧ s.Does (.takeRun c) t := by
  simp only [exec, execTakeRun]
  split
  · split
    · exact ⟨s, rfl, .same _⟩
    · rename_i can _ e rest queue
      refine ⟨_, rfl, .taken c e rest _ rfl queue can (State.coursed_beginLoad _ c ?_)⟩
      rw [State.ch_modCh_same]
      rfl
  · exact ⟨s, rfl, .same _⟩

/-! ### Accesses -/

theorem State.does_memoryIssue (s : State) : ∃ t, exec .memoryIssue s = .next t ∧ s.Does .memoryIssue t := by
  simp only [exec, execMemoryIssue]
  split
  · exact ⟨s, rfl, .same _⟩
  split
  · exact ⟨_, rfl, .issued _ _ rfl⟩
  · exact ⟨s, rfl, .same _⟩

theorem State.does_memoryResponse (s : State) (c : Chan) (n : BitVec 8) (r : MemResponse) :
    ∃ t, exec (.memoryResponse c n r) s = .next t ∧ s.Does (.memoryResponse c n r) t := by
  simp only [exec, execMemoryResponse]
  split
  · split
    · exact ⟨_, rfl, .accessed c _ rfl (State.coursed_accessResult ..)⟩
    · exact ⟨s, rfl, .same _⟩
  · split
    · exact ⟨_, rfl, .accessed c _ rfl (.refl ..)⟩
    · exact ⟨s, rfl, .same _⟩
  · exact ⟨s, rfl, .same _⟩

theorem State.does_memoryTimeout (s : State) (c : Chan) :
    ∃ t, exec (.memoryTimeout c) s = .next t ∧ s.Does (.memoryTimeout c) t := by
  simp only [exec, execMemoryTimeout]
  split
  · exact ⟨_, rfl, .accessed c _ rfl (State.coursed_accessResult ..)⟩
  · exact ⟨_, rfl, .accessed c _ rfl (.refl ..)⟩
  · exact ⟨s, rfl, .same _⟩

theorem State.does_storeAccessDone (s : State) :
    ∃ t, exec .storeAccessDone s = .next t ∧ s.Does .storeAccessDone t := by
  simp only [exec, execStoreAccessDone]
  split
  · exact ⟨s, rfl, .same _⟩
  · exact ⟨_, rfl, .hostStored _⟩
  · rename_i c a w _
    refine ⟨_, rfl, .stored c a _ ?_⟩
    unfold State.storeChannelDone
    dsimp only
    split
    · exact State.coursed_accessResult ..
    · exact .refl ..

/-! ### The whole -/

/-- Every command answers a next state, and one that `State.Does` describes. -/
theorem exec_does (i : Instr) (s : State) : ∃ t, exec i s = .next t ∧ s.Does i t := by
  cases spelled : writeOf i with
  | some w => exact ⟨_, exec_of_write spelled s, s.does_hostWrite (.inl spelled)⟩
  | none =>
    cases i
    case answer => exact s.does_answer ..
    case noAnswer => exact s.does_noAnswer ..
    case hailRise => exact s.does_hailRise ..
    case hailFall => exact s.does_hailFall ..
    case readyChange c level => 
      exact ⟨_, rfl, .atPort c (fun p => { p with ready := level }) _ rfl (fun _ h => h) (State.coursed_reexamine _ c)⟩
    case notReady => exact s.does_notReady ..
    case paceExpiry => exact s.does_paceExpiry ..
    case tick =>
      simp only [exec, execTick]
      split
      · exact ⟨s, rfl, .same _⟩
      · exact ⟨_, rfl, .ticked⟩
    case takeRun => exact s.does_takeRun ..
    case memoryIssue => exact s.does_memoryIssue
    case memoryResponse => exact s.does_memoryResponse ..
    case memoryTimeout => exact s.does_memoryTimeout ..
    case storeAccessDone => exact s.does_storeAccessDone
    case apertureRead => exact ⟨_, rfl, s.does_apertureAccess _ _ _ rfl⟩
    case apertureWrite => exact ⟨_, rfl, s.does_apertureAccess _ _ _ rfl⟩
    case registerWrite => exact ⟨_, rfl, s.does_registerWrite ..⟩
    case registerAccessViolation => exact s.does_accessViolation ..
    case powerOnReset => exact ⟨_, rfl, .poweredOn⟩
    case resetRelease => exact ⟨_, rfl, .released⟩
    case initialisationEnd =>
      simp only [exec, execInitialisationEnd]
      split
      next h => exact ⟨_, rfl, .initialised h.1⟩
      next => exact ⟨s, rfl, .same _⟩
    case supplyWarnAssert =>
      simp only [exec, execSupplyWarnAssert]
      split
      next h => exact ⟨_, rfl, .quiesces h⟩
      next => exact ⟨_, rfl, .warned _ rfl true⟩
    case supplyWarnDeassert => exact ⟨_, rfl, .warned _ rfl false⟩
    case storageFailure w v => exact ⟨_, rfl, .broken w v⟩
    all_goals cases spelled

/-- The inversion of a command. -/
theorem State.does_of_exec {i : Instr} {s t : State} (h : exec i s = .next t) : s.Does i t := by
  obtain ⟨u, next, does⟩ := exec_does i s
  cases h.symm.trans next
  exact does

end Sys2Proof.Machine
end

section
/-! PROOF. Everything a write to a register can do, once the Guard has permitted it. -/

namespace Sys2Proof.Machine

/-- What a command or a setting changes of a channel: neither its state nor what it holds, queues or belongs to; an armed
flag stays set, and a detach becomes pending only on a channel that is neither IDLE nor HALTED (R42, R155). -/
structure Channel.Set (ch ch' : Channel) : Prop where
  state : ch'.state = ch.state
  held : ch'.held = ch.held
  flushCount : ch'.flushCount = ch.flushCount
  queue : ch'.queue = ch.queue
  domain : ch'.domain = ch.domain
  pendingDomain : ch'.pendingDomain = ch.pendingDomain
  armed : ch.armed = true → ch'.armed = true
  detach : ch'.detachPending = true → ch.detachPending = true ∨ ¬ ch.resting

/-- What a change of domain changes of a channel (R118). -/
structure Channel.Assigned (ch ch' : Channel) : Prop where
  state : ch'.state = ch.state
  held : ch'.held = ch.held
  flushCount : ch'.flushCount = ch.flushCount
  queue : ch'.queue = ch.queue
  armed : ch'.armed = ch.armed
  detachPending : ch'.detachPending = ch.detachPending
  domain : ch'.domain = ch.domain ∨ ch.empty = true
  pendingDomain : ch'.pendingDomain.isSome = true → ch.empty = false

/-- The window registers of a tenant (R107). -/
def Reg.isWindow : Reg → Bool
  | .hostBase _ | .hostSize _ | .stageBase _ | .stageSize _ => true
  | _ => false

/-- What a permitted write of a value to a register can make of a state. -/
inductive State.Writes (s : State) : Reg → Word → State → Prop
  | same (r : Reg) (v : Word) : s.Writes r v s
  /-- A register of the hub, the windows, the screen, the direct slot or the Concentrator takes a value. -/
  | registers {r : Reg} {v : Word} (hl : HubCmdStatus) (td : BitVec 12) (mt : BitVec 10) (w : Vector Window 3)
      (sc : Vector ScreenEntry 8) (di : Direct) (ev : Events) (only : r.supervisorOnly = true)
      (window : w ≠ s.windows → r.isWindow = true) (busy : s.direct.result = .busy → di.result = .busy) :
      s.Writes r v { s with
        hubLastCmd := hl, tickDivider := td, memTimeout := mt, windows := w, screen := sc, direct := di, events := ev }
  | acked (v : Word) : s.Writes .trapAck v { s with trap := none, lost := 0 }
  | resumedAll {v : Word} (value : v.toNat = 3) :
      s.Writes .hubCommand v { s with hubState := .operational, hubLastCmd := .accepted }
  | quiesced {v : Word} (operational : s.hubState = .operational) :
      s.Writes .hubCommand v (State.enterQuiescing { s with hubLastCmd := .accepted }).settle
  | hubReset {v : Word} (value : v.toNat = 1) : s.Writes .hubCommand v s.resetHub
  | setChannel {c : Chan} {x : ChReg} {v : Word} (f : Channel → Channel) (set : Channel.Set (s.ch c) (f (s.ch c))) :
      s.Writes (.ch c x) v (s.modCh c f)
  /-- A post outside the window, or DETACH or ATTACH of the owning tenant. -/
  | violated {c : Chan} {x : ChReg} {v : Word} (f : Channel → Channel) (t : Trap)
      (set : Channel.Set (s.ch c) (f (s.ch c))) : s.Writes (.ch c x) v ((s.modCh c f).recordTrap t)
  | posted {c : Chan} {x : ChReg} {v : Word} (e : QueueEntry) (settled : (s.ch c).pendingDomain = none)
      (place : (s.ch c).queue.length < 6) :
      s.Writes (.ch c x) v (s.modCh c fun ch => { ch with queue := ch.queue ++ [e], postStatus := .accepted })
  | stray {c : Chan} {x : ChReg} {v : Word} : s.Writes (.ch c x) v (s.modPort c fun p => { p with stray := false })
  | assigned {v : Word} (c : Chan) (f : Channel → Channel) (set : Channel.Assigned (s.ch c) (f (s.ch c))) :
      s.Writes .assign v (s.modCh c f)
  | sentDirect {v : Word} (di : Direct) (p : Chan) (k : Kind) (pl : Payload)
      (admits : ¬ (s.hubState = .quiescing ∨ s.hubState = .quiesced)) :
      s.Writes .dirCommand v (State.send { s with direct := di } p .direct k pl)
  | threshold {l : Dom} {x : LogReg} {v : Word} (t : BitVec 5) (bound : t.toNat ≤ 16) :
      s.Writes (.log l x) v (s.modLog l fun y => { y with threshold := t })
  | popped {l : Dom} {v : Word} : s.Writes (.log l .pop) v (s.popLog l).settle
  | stopped {c : Chan} {v : Word} (value : v.toNat = 2) : s.Writes (.ch c .command) v (s.cmdStop c)
  /-- FLUSH of a channel that conducts a run or is in LOGGING. -/
  | flushed {c : Chan} {x : ChReg} {v : Word} (n : BitVec 8) (status : ChCmdStatus) (active : ¬ (s.ch c).resting) :
      s.Writes (.ch c x) v (s.modCh c fun ch => { ch with queue := [], flushCount := n, lastCmd := status })
  /-- FLUSH of a channel in IDLE or HALTED: its FLUSHED record is produced at once. -/
  | flushedNow {c : Chan} {x : ChReg} {v : Word} (f : Channel → Channel) (resting : (s.ch c).resting)
      (armed : (f (s.ch c)).armed = (s.ch c).armed) (domain : (f (s.ch c)).domain = (s.ch c).domain)
      (held : (f (s.ch c)).held = (s.ch c).held) (queue : (f (s.ch c)).queue = []) :
      s.Writes (.ch c x) v ((s.modCh c f).produceFlushed c).settle
  | resumed {c : Chan} {x : ChReg} {v : Word} (halted : (s.ch c).state = .halted) :
      s.Writes (.ch c x) v (s.modCh c fun ch => { ch with state := .idle, lastCmd := .accepted }).settle
  | resetCh {c : Chan} {v : Word} (value : v.toNat = 5) : s.Writes (.ch c .command) v (s.resetChan c)

/-! ### The channel commands (R85) and posts (R32) -/

theorem State.writes_lastCmd (s : State) (c : Chan) (x : ChReg) (v : Word) (st : ChCmdStatus) :
    s.Writes (.ch c x) v (s.setLastCmd c st) :=
  .setChannel _ ⟨rfl, rfl, rfl, rfl, rfl, rfl, fun h => h, fun h => .inl h⟩

theorem State.writes_refusePrivilege (s : State) (d : Dom) (c : Chan) (x : ChReg) (v : Word) :
    s.Writes (.ch c x) v (s.refusePrivilege d c) :=
  .violated _ _ ⟨rfl, rfl, rfl, rfl, rfl, rfl, fun h => h, fun h => .inl h⟩

theorem State.writes_cmdFlush (s : State) (c : Chan) (x : ChReg) (v : Word) : s.Writes (.ch c x) v (s.cmdFlush c) := by
  unfold State.cmdFlush
  dsimp only
  split
  next empty =>
    have kept : satAdd8 (s.ch c).flushCount (s.ch c).queue.length = (s.ch c).flushCount := by
      simp only [satAdd8, empty, List.length_nil, Nat.add_zero]
      rw [Nat.min_eq_right (by omega), BitVec.ofNat_toNat, BitVec.setWidth_eq]
    exact .setChannel _ ⟨rfl, rfl, kept, empty.symm, rfl, rfl, fun h => h, fun h => .inl h⟩
  split
  next idle =>
    rw [State.modCh_modCh]
    exact .flushedNow _ (.inl idle) rfl rfl rfl rfl
  split
  next halted =>
    rw [State.modCh_modCh]
    exact .flushedNow _ (.inr halted) rfl rfl rfl rfl
  next idle halted =>
    rw [s.modCh_congr c (g := fun ch =>
      { ch with queue := [], flushCount := satAdd8 (s.ch c).flushCount (s.ch c).queue.length, lastCmd := .accepted }) rfl]
    exact .flushed _ _ (not_or.mpr ⟨idle, halted⟩)

theorem State.writes_cmdDetach (s : State) (d : Dom) (c : Chan) (x : ChReg) (v : Word) :
    s.Writes (.ch c x) v (s.cmdDetach d c) := by
  unfold State.cmdDetach
  dsimp only
  split
  · exact s.writes_refusePrivilege d c x v
  split
  · exact s.writes_lastCmd c x v _
  split
  · exact .setChannel _ ⟨rfl, rfl, rfl, rfl, rfl, rfl, fun h => h, nofun⟩
  next active => exact .setChannel _ ⟨rfl, rfl, rfl, rfl, rfl, rfl, fun h => h, fun _ => .inr active⟩

theorem State.writes_chCommand (s : State) (d : Dom) (c : Chan) (v : Word) :
    s.Writes (.ch c .command) v (s.chCommand d c v) := by
  unfold State.chCommand
  split
  · exact .setChannel _ ⟨rfl, rfl, rfl, rfl, rfl, rfl, fun _ => rfl, fun h => .inl h⟩
  · exact .stopped (by assumption)
  · exact s.writes_cmdFlush c _ v
  · unfold State.cmdResume
    split
    · exact .resumed (by assumption)
    · exact s.writes_lastCmd c _ v _
  · exact .resetCh (by assumption)
  · exact s.writes_cmdDetach d c _ v
  · unfold State.cmdAttach
    split
    · exact s.writes_refusePrivilege d c _ v
    · exact .setChannel _ ⟨rfl, rfl, rfl, rfl, rfl, rfl, fun h => h, nofun⟩
  · exact s.writes_lastCmd c _ v _

theorem State.writes_postRequest (s : State) (d : Dom) (c : Chan) (x : ChReg) (v : Word) :
    s.Writes (.ch c x) v (s.postRequest d c v) := by
  have status : ∀ p, Channel.Set (s.ch c) { s.ch c with postStatus := p } := fun p =>
    ⟨rfl, rfl, rfl, rfl, rfl, rfl, fun h => h, fun h => .inl h⟩
  unfold State.postRequest
  split
  · exact .setChannel _ (status _)
  split
  · exact .setChannel _ (status _)
  next unchanging =>
    split
    · exact .setChannel _ (status _)
    split
    · exact .violated _ _ (status _)
    split
    · exact .setChannel _ (status _)
    next place => exact .posted _ (by simpa using unchanging) (by simpa [Config.queueDepth] using place)

/-! ### The hub's blocks -/

theorem State.writes_hubCommand (s : State) (v : Word) : s.Writes .hubCommand v (s.hubCommand v) := by
  have status : ∀ st, s.Writes .hubCommand v { s with hubLastCmd := st } := fun st =>
    .registers st s.tickDivider s.memTimeout s.windows s.screen s.direct s.events rfl (fun h => absurd rfl h) fun h => h
  unfold State.hubCommand
  split
  · exact .hubReset (by assumption)
  · unfold State.cmdEnterQuiesce
    split
    · exact .quiesced (by assumption)
    · exact status _
  · unfold State.cmdResumeAll
    split
    · exact .resumedAll (by assumption)
    · exact status _
  · exact status _

theorem State.writes_directCommand (s : State) (v : Word) (p : Chan) (k : BitVec 3) (last : Bool) (code : CloseCode) :
    s.Writes .dirCommand v (s.directCommand p k last code) := by
  have slot : ∀ di : Direct, (s.direct.result = .busy → di.result = .busy) →
      s.Writes .dirCommand v { s with direct := di } := fun di busy =>
    .registers s.hubLastCmd s.tickDivider s.memTimeout s.windows s.screen di s.events rfl (fun h => absurd rfl h) busy
  unfold State.directCommand
  split
  · exact slot _ fun h => h
  next free =>
    split
    · exact slot _ fun h => absurd h free
    split
    · exact slot _ fun h => absurd h free
    next admits =>
      split
      · exact slot _ fun h => absurd h free
      · exact .sentDirect _ p _ _ admits

theorem State.writes_assign (s : State) (v : Word) : s.Writes .assign v (s.assign v) := by
  unfold State.assign
  dsimp only
  split
  · exact .assigned _ _ ⟨rfl, rfl, rfl, rfl, rfl, rfl, .inl rfl, nofun⟩
  split
  next empty => exact .assigned _ _ ⟨rfl, rfl, rfl, rfl, rfl, rfl, .inr empty, nofun⟩
  next active =>
    exact .assigned _ _ ⟨rfl, rfl, rfl, rfl, rfl, rfl, .inl rfl, fun _ => Bool.eq_false_iff.mpr active⟩

/-- The inversion of a permitted write. -/
theorem State.writes_writeReg (s : State) (d : Dom) (r : Reg) (v : Word) : s.Writes r v (s.writeReg d r v) := by
  have kept : s.windows ≠ s.windows → r.isWindow = true := fun h => absurd rfl h
  have busy : s.direct.result = .busy → s.direct.result = .busy := fun h => h
  cases r
  case hubCommand => exact s.writes_hubCommand v
  case dirCommand => exact s.writes_directCommand v _ _ _ _
  case assign => exact s.writes_assign v
  case trapAck =>
    simp only [State.writeReg, State.ackTrap]
    split
    · exact .same _ v
    · exact .acked v
  case tickDivider | memTimeout | evcClear | evcEnable | evcRoute | evcWakeEnable | screen | dirWordOut =>
    exact .registers _ _ _ _ _ _ _ rfl kept busy
  case hostBase | hostSize | stageBase => exact .registers _ _ _ _ _ _ _ rfl (fun _ => rfl) busy
  case stageSize =>
    simp only [State.writeReg]
    split
    · exact .registers _ _ _ _ _ _ _ rfl (fun _ => rfl) busy
    · exact .same _ v
  case ch c r =>
    cases r
    case command => exact s.writes_chCommand d c v
    case post => exact s.writes_postRequest d c _ v
    case config =>
      change s.Writes _ v (s.writeConfig c v)
      unfold State.writeConfig
      exact .setChannel _ ⟨rfl, rfl, rfl, rfl, rfl, rfl, fun h => h, fun h => .inl h⟩
    case port =>
      simp only [State.writeReg, State.writeCh, State.writePort]
      split
      · exact .stray
      · exact .same _ v
    all_goals exact .same _ v
  case log l r =>
    cases r
    case threshold =>
      simp only [State.writeReg, State.writeLog, State.writeThreshold]
      split
      next bound => exact .threshold _ (by rw [BitVec.toNat_setWidth]; exact le_trans (Nat.mod_le _ _) bound)
      next => exact .same _ v
    case pop => exact .popped
    all_goals exact .same _ v
  all_goals exact .same _ v

end Sys2Proof.Machine
end

section
/-! PROOF. What `State.settle` and a step for each channel leave alone, and the progress of every command: it answers a next
state, leaves the queue and withdraws nothing that was put out (O2). -/

namespace Sys2Proof.Machine

/-! ### What `State.settle` leaves -/

@[simp] theorem State.pending_settle (s : State) : s.settle.pending = s.pending := by rw [State.settle_eq]
@[simp] theorem State.outputs_settle (s : State) : s.settle.outputs = s.outputs := by rw [State.settle_eq]
@[simp] theorem State.ports_settle (s : State) : s.settle.ports = s.ports := by rw [State.settle_eq]
@[simp] theorem State.slots_settle (s : State) : s.settle.slots = s.slots := by rw [State.settle_eq]
@[simp] theorem State.store_settle (s : State) : s.settle.store = s.store := by rw [State.settle_eq]
@[simp] theorem State.windows_settle (s : State) : s.settle.windows = s.windows := by rw [State.settle_eq]
@[simp] theorem State.trap_settle (s : State) : s.settle.trap = s.trap := by rw [State.settle_eq]
@[simp] theorem State.logs_settle (s : State) : s.settle.logs = s.logs := by rw [State.settle_eq]
@[simp] theorem State.screen_settle (s : State) : s.settle.screen = s.screen := by rw [State.settle_eq]
@[simp] theorem State.log_settle (s : State) (d : Dom) : s.settle.log d = s.log d := by
  unfold State.log; simp only [State.logs_settle]
@[simp] theorem State.mem_settle (s : State) (c : Chan) : s.settle.mem c = s.mem c := by
  unfold State.mem; simp only [State.slots_settle]

/-- The hub state changes within a step only from QUIESCING to QUIESCED (R180). -/
theorem State.hubState_settle (s : State) (h : s.hubState ≠ .quiescing) : s.settle.hubState = s.hubState := by
  rw [State.settle_eq]
  exact if_neg fun q => h q.1

/-! ### A step for each channel -/

/-- What each channel's step keeps, the steps of all channels keep. -/
theorem State.forChans_induction (P : State → Prop) (s : State) (f : Chan → State → State) (start : P s)
    (next : ∀ c u, P u → P (f c u)) : P (s.forChans f) := by
  suffices every : ∀ (l : List Chan) (u : State), P u → P (l.foldl (fun s c => f c s) u) from every allChans s start
  intro l
  induction l with
  | nil => exact fun u h => h
  | cons c l ih => exact fun u h => ih _ (next c u h)

/-- What the engine's frame keeps for every channel, the beginning of quiesce keeps. -/
theorem State.enterQuiescing_induction (P : State → Prop) (s : State) (start : P { s with hubState := .quiescing })
    (next : ∀ c u v, State.Framed c u v → State.Worked c u v → P u → P v) : P s.enterQuiescing :=
  State.forChans_induction P _ _ start fun c u h =>
    next c u _ (State.framed_reexamine u c) (State.worked_reexamine u c) h

/-- CLEAR is pulsed on every port, in ascending order: every port is in LINK_IDLE with its timer stopped. -/
theorem State.clearAll_eq (s : State) :
    s.clearAll =
      { s with
        ports := s.ports.map fun p => { p with outstanding := none, timer := .stopped },
        outputs := s.outputs ++
          [.clear 0, .clear 1, .clear 2, .clear 3, .clear 4, .clear 5, .clear 6, .clear 7] } := by
  have ended : (s.clearAll).ports = s.ports.map fun p => { p with outstanding := none, timer := .stopped } := by
    apply Vector.ext
    intro i hi
    simp only [State.clearAll, State.forChans, allChans, List.foldl, State.pulseClear, State.endTransaction,
      State.modPort, State.emit, Vector.getElem_map]
    interval_cases i <;> simp
  rw [← ended]
  simp [State.clearAll, State.forChans, allChans, State.pulseClear, State.endTransaction, State.modPort, State.emit]

/-! ### The resets as one update -/

/-- HUB_RESET as one update of the power-on values, before `State.settle`. -/
theorem State.resetHub_eq (s : State) :
    s.resetHub = State.settle
      { State.reset with
        hubState := if s.supplyWarn then .quiescing else .operational,
        hubLastCmd := .accepted, supplyWarn := s.supplyWarn, tickPeriod := s.tickPeriod,
        slots := s.slots.map MemSlot.abandon, store := s.store, hostWaiting := s.hostWaiting,
        granted := s.granted.map Granted.abandonAll, ports := s.ports.map Port.afterReset,
        pending := s.pending,
        outputs := s.outputs ++
          [.clear 0, .clear 1, .clear 2, .clear 3, .clear 4, .clear 5, .clear 6, .clear 7] } := by
  have levels : (s.ports.map fun p => { p with outstanding := none, timer := .stopped }).map Port.afterReset =
      s.ports.map Port.afterReset := by
    rw [Vector.map_map]; rfl
  unfold State.resetHub
  rw [State.clearAll_eq]
  dsimp only
  rw [levels]

/-- The end of initialisation as one update, before `State.settle`. -/
theorem State.endInitialisation_eq (s : State) :
    s.endInitialisation = State.settle
      { s with
        store := [], hubState := if s.supplyWarn then .quiescing else .operational,
        ports := s.ports.map fun p => { p with outstanding := none, timer := .stopped, stray := false },
        outputs := s.outputs ++
          [.clear 0, .clear 1, .clear 2, .clear 3, .clear 4, .clear 5, .clear 6, .clear 7] } := by
  have cleared : (s.ports.map fun p => { p with outstanding := none, timer := .stopped }).map
      (fun p => { p with stray := false }) =
      s.ports.map fun p => { p with outstanding := none, timer := .stopped, stray := false } := by
    rw [Vector.map_map]; rfl
  unfold State.endInitialisation
  rw [State.clearAll_eq]
  dsimp only
  rw [cleared]

/-- RESET_CHANNEL as one update, before `State.settle` (R83). -/
theorem State.resetChan_eq (s : State) (c : Chan) :
    s.resetChan c = State.settle
      { s with
        slots := s.slots.set c.val (s.mem c).abandon,
        storeRequests := s.storeRequests.set c.val none,
        granted := s.granted.map fun g => g.abandonFor c,
        ports := s.ports.set c.val
          { s.port c with outstanding := none, timer := .stopped, hailSeen := false, stray := false },
        outputs := s.outputs ++ [.clear c],
        direct := if s.direct.result = .busy ∧ s.direct.port = c then { s.direct with result := .cancelled, wordIn := 0 }
          else s.direct,
        events := { s.events with
          direct := s.events.direct || Decidable.decide (s.direct.result = .busy ∧ s.direct.port = c),
          channels := s.events.channels.set c.val false },
        logs := s.logs.map fun l => { l with waiting := l.waiting.filter (· ≠ c) },
        channels := s.channels.set c.val (s.ch c).afterReset } := by
  by_cases cancels : s.direct.result = .busy ∧ s.direct.port = c
  · simp [State.resetChan, State.cancelDirect, State.abandonAccesses, State.pulseClear, State.endTransaction,
      State.leaveWaiting, State.modPort, State.modMem, State.setStoreReq, State.modCh, State.emit, State.latchDirect,
      State.mem, State.port, State.ch, cancels]
  · simp [State.resetChan, State.cancelDirect, State.abandonAccesses, State.pulseClear, State.endTransaction,
      State.leaveWaiting, State.modPort, State.modMem, State.setStoreReq, State.modCh, State.emit,
      State.mem, State.port, State.ch, cancels]

/-! ### Progress -/

/-- The queue is left alone, and what has been put out stays. -/
def State.Onward (s t : State) : Prop := t.pending = s.pending ∧ s.outputs <+: t.outputs

theorem State.Onward.refl (s : State) : State.Onward s s := ⟨rfl, List.prefix_rfl⟩

/-- One more item put out. -/
theorem State.Onward.put {s t : State} (p : t.pending = s.pending) (os : List Output) (o : t.outputs = s.outputs ++ os) :
    State.Onward s t := ⟨p, o ▸ List.prefix_append _ _⟩

/-- An update of other parts of the state. -/
theorem State.Onward.of_eq {s t : State} (p : t.pending = s.pending) (o : t.outputs = s.outputs) : State.Onward s t :=
  ⟨p, o ▸ List.prefix_rfl⟩

theorem State.Framed.onward {c : Chan} {s t u : State} (h : State.Framed c t u) (p : t.pending = s.pending)
    (o : t.outputs = s.outputs) : State.Onward s u := ⟨h.pending.trans p, o ▸ h.outputs⟩

theorem State.Onward.settle {s t : State} (h : State.Onward s t) : State.Onward s t.settle :=
  ⟨(State.pending_settle t).trans h.1, (State.outputs_settle t).symm ▸ h.2⟩

theorem State.onward_enterQuiescing {s t : State} (p : t.pending = s.pending) (o : t.outputs = s.outputs) :
    State.Onward s t.enterQuiescing :=
  State.enterQuiescing_induction (State.Onward s) t (.of_eq p o) fun _ _ _ framed _ h =>
    ⟨framed.pending.trans h.1, h.2.trans framed.outputs⟩

theorem State.onward_popLog (s : State) (d : Dom) : State.Onward s (s.popLog d) := by
  unfold State.popLog
  split
  · exact .refl s
  split
  · exact .of_eq rfl rfl
  split
  · exact .of_eq rfl rfl
  · exact (State.framed_afterAccepted _ _).onward rfl rfl

theorem State.onward_cmdStop (s : State) (c : Chan) : State.Onward s (s.cmdStop c) := by
  have ended : State.Onward s
      ((s.modCh c fun ch => { ch with armed := false, stopPending := ch.stopPending || ch.state.stoppable }).reexamine c) :=
    (State.framed_reexamine _ c).onward rfl rfl
  exact State.Onward.settle ⟨ended.1, ended.2⟩

theorem State.Writes.onward {s t : State} {r : Reg} {v : Word} (h : s.Writes r v t) : State.Onward s t := by
  cases h with
  | same => exact .refl s
  | quiesced => exact .settle (State.onward_enterQuiescing rfl rfl)
  | hubReset => rw [State.resetHub_eq]; exact .settle (.put rfl _ rfl)
  | violated => exact .of_eq (State.pending_recordTrap ..) (State.outputs_recordTrap ..)
  | sentDirect => exact (State.framed_send ..).onward rfl rfl
  | popped => exact .settle (s.onward_popLog _)
  | stopped => exact s.onward_cmdStop _
  | flushedNow => exact .settle ((State.framed_produceFlushed ..).onward rfl rfl)
  | resumed => exact .settle (.of_eq rfl rfl)
  | resetCh => rw [State.resetChan_eq]; exact .settle (.put rfl _ rfl)
  | registers | acked | resumedAll | setChannel | posted | stray | assigned | threshold | flushed => exact .of_eq rfl rfl

theorem State.onward_hostAccessDone (s : State) (r : HostRequest) : State.Onward s (s.hostAccessDone r) := by
  unfold State.hostAccessDone
  split
  · exact .put rfl _ rfl
  · dsimp only
    split <;> exact .put rfl _ rfl

theorem State.Does.onward {s t : State} {i : Instr} (h : s.Does i t) : State.Onward s t := by
  cases h with
  | same => exact .refl s
  | written => exact (s.writes_writeReg ..).onward
  | violated => exact .of_eq (State.pending_recordTrap ..) (State.outputs_recordTrap ..)
  | answered => exact .put rfl _ rfl
  | refused => exact .put (State.pending_recordTrap ..) _ (congrArg (· ++ _) (State.outputs_recordTrap ..))
  | waits => exact .settle (.of_eq rfl rfl)
  | direct c res => cases res <;> exact .settle (.of_eq rfl rfl)
  | atPort _ _ _ _ _ course => exact .settle (course.framed.onward rfl rfl)
  | taken _ _ _ _ _ _ _ course => exact .settle (course.framed.onward rfl rfl)
  | issued => exact .settle (.put rfl _ rfl)
  | accessed _ _ _ course => exact .settle (course.framed.onward rfl rfl)
  | hostStored r => exact .settle (State.onward_hostAccessDone { s with granted := none } r)
  | stored _ _ _ course => exact .settle (course.framed.onward rfl rfl)
  | initialised => rw [State.endInitialisation_eq]; exact .settle (.put rfl _ rfl)
  | quiesces => exact .settle (State.onward_enterQuiescing rfl rfl)
  | level | ticked | poweredOn | released | warned | broken => exact .of_eq rfl rfl

/-- Settles O2, by what each command can do. -/
theorem everyCommandAnswersNext : Obligations.EveryCommandAnswersNext := by
  intro i s
  obtain ⟨t, next, does⟩ := exec_does i s
  exact ⟨t, next, does.onward⟩

end Sys2Proof.Machine
end

section
/-! PROOF. Every step keeps the store canonical, the answer timers with their links, and queues, logs and thresholds within
their bounds (O56). -/

namespace Sys2Proof.Machine

/-! ### What the offer of a record comes to (R36, R62, R81, R92) -/

/-- What an offer of channel `c` leaves. Beside the frame it touches the log of the channel's domain alone: either all is
accepted, and the channel is at rest, holding nothing and with no pending flush count; or the log is full by then, and the
channel holds a record at the tail of the waiting list. -/
structure State.Offered (c : Chan) (s t : State) : Prop where
  framed : State.Framed c s t
  ports : t.ports = s.ports
  trap : t.trap = s.trap
  screen : t.screen = s.screen
  log : ∀ d, d ≠ (s.ch c).domain → t.log d = s.log d
  bound : (s.log (s.ch c).domain).records.length ≤ 16 → (t.log (s.ch c).domain).records.length ≤ 16
  outcome :
    ((t.log (s.ch c).domain).waiting = (s.log (s.ch c).domain).waiting ∧
      ((t.log (s.ch c).domain).records = (s.log (s.ch c).domain).records ∨
        (s.log (s.ch c).domain).records.length < 16) ∧
      (t.ch c).resting ∧ (t.ch c).held = none ∧ (t.ch c).flushCount = 0) ∨
    ((t.log (s.ch c).domain).waiting = (s.log (s.ch c).domain).waiting ++ [c] ∧
      16 ≤ (t.log (s.ch c).domain).records.length ∧ (t.ch c).state = .logging ∧ (t.ch c).held.isSome = true)

theorem Log.hasRoom_iff (l : Log) : l.hasRoom = true ↔ l.records.length < 16 := by
  unfold Log.hasRoom
  exact decide_eq_true_iff

theorem State.offered_leaveLogging (s : State) (c : Chan) (none : (s.ch c).flushCount = 0) :
    State.Offered c s (s.leaveLogging c) := by
  have framed := s.framed_leaveLogging c
  unfold State.leaveLogging at framed ⊢
  split at framed
  next idle =>
    exact ⟨framed, rfl, rfl, rfl, fun _ _ => rfl, id, .inl ⟨rfl, .inl rfl, by
      rw [State.ch_modCh_same]; exact ⟨.inl rfl, rfl, none⟩⟩⟩
  next halt =>
    exact ⟨framed, rfl, rfl, rfl, fun _ _ => rfl, id, .inl ⟨rfl, .inl rfl, by
      rw [State.ch_latchChannel, State.ch_modCh_same]; exact ⟨.inr rfl, rfl, none⟩⟩⟩
  next back =>
    exact ⟨framed, rfl, rfl, rfl, fun _ _ => rfl, id, .inl ⟨rfl, .inl rfl, by
      rw [State.ch_modCh_same]; exact ⟨.inr rfl, rfl, none⟩⟩⟩

theorem State.offered_holdRecord (s : State) (c : Chan) (r : Record) (full : ¬ (s.log (s.ch c).domain).records.length < 16) :
    State.Offered c s (s.holdRecord c (s.ch c).domain r) where
  framed := s.framed_holdRecord c _ r
  ports := rfl
  trap := rfl
  screen := rfl
  log d other := State.log_modLog_ne _ _ other
  bound b := by unfold State.holdRecord; rw [State.log_modLog_same]; exact b
  outcome := .inr (by
    unfold State.holdRecord
    rw [State.log_modLog_same, State.ch_modLog, State.ch_modCh_same]
    exact ⟨rfl, not_lt.mp full, rfl, rfl⟩)

/-- An offer after an acceptance into a log with room: the whole is an offer. -/
theorem State.Offered.ofAppend {c : Chan} {s t : State} {r : Record} (room : (s.log (s.ch c).domain).records.length < 16)
    (h : State.Offered c (s.modLog (s.ch c).domain fun l => l.append r) t) : State.Offered c s t where
  framed := (s.framed_append c _ r).trans h.framed
  ports := h.ports
  trap := h.trap
  screen := h.screen
  log d other := (h.log d other).trans (State.log_modLog_ne _ _ other)
  bound _ := h.bound (by rw [State.ch_modLog, State.log_modLog_same]; simp [Log.append]; omega)
  outcome := by
    have out := h.outcome
    rw [State.ch_modLog, State.log_modLog_same] at out
    rcases out with ⟨waiting, -, rest⟩ | refused
    · exact .inl ⟨waiting, .inr room, rest⟩
    · exact .inr refused

/-- An offer after a change of the channel that leaves its domain: the whole is an offer. -/
theorem State.Offered.ofModCh {c : Chan} {s t : State} {f : Channel → Channel} (kept : Channel.Kept (s.ch c) (f (s.ch c)))
    (h : State.Offered c (s.modCh c f) t) : State.Offered c s t where
  framed := (s.framed_modCh c f kept).trans h.framed
  ports := h.ports
  trap := h.trap
  screen := h.screen
  log d other := h.log d (by rw [State.ch_modCh_same, kept.domain]; exact other)
  bound b := by
    have := h.bound
    rw [State.ch_modCh_same, kept.domain] at this
    exact this b
  outcome := by
    have := h.outcome
    rw [State.ch_modCh_same, kept.domain] at this
    exact this

theorem State.offered_produceFlushed (s : State) (c : Chan) : State.Offered c s (s.produceFlushed c) := by
  refine .ofModCh (f := fun ch => { ch with flushCount := 0 }) (by constructor <;> rfl) ?_
  have none : ((s.modCh c fun ch => { ch with flushCount := 0 }).ch c).flushCount = 0 := by rw [State.ch_modCh_same]
  unfold State.produceFlushed State.offerFlushed
  generalize s.modCh c (fun ch => { ch with flushCount := 0 }) = u at none ⊢
  dsimp only
  split
  next room => exact .ofAppend ((Log.hasRoom_iff _).mp room) (State.offered_leaveLogging _ c none)
  next full => exact u.offered_holdRecord c _ (mt (Log.hasRoom_iff _).mpr full)

theorem State.offered_afterAccepted (s : State) (c : Chan) : State.Offered c s (s.afterAccepted c) := by
  unfold State.afterAccepted
  split
  next none => exact s.offered_leaveLogging c none
  next =>
    exact .ofModCh (f := fun ch => { ch with state := .logging, held := none }) (by constructor <;> rfl)
      (State.offered_produceFlushed _ c)

theorem State.offered_logRecord (s : State) (c : Chan) (r : Record) : State.Offered c s (s.logRecord c r) := by
  unfold State.logRecord
  refine .ofModCh (f := fun ch => { ch with
    state := .logging, run := Run.blank, afterLogging := if r.flags.halted then .halt else .idle })
    (by constructor <;> rfl) ?_
  generalize s.modCh c (fun ch => { ch with
    state := .logging, run := Run.blank, afterLogging := if r.flags.halted then .halt else .idle }) = u
  unfold State.offer
  dsimp only
  split
  next room => exact .ofAppend ((Log.hasRoom_iff _).mp room) (State.offered_afterAccepted _ c)
  next full => exact u.offered_holdRecord c r (mt (Log.hasRoom_iff _).mpr full)

/-! ### The store (R129) -/

theorem State.store_enterQuiescing (s : State) : s.enterQuiescing.store = s.store :=
  State.enterQuiescing_induction (fun u => u.store = s.store) s rfl fun _ _ _ framed _ h => framed.store.trans h

theorem State.store_popLog (s : State) (d : Dom) : (s.popLog d).store = s.store := by
  unfold State.popLog
  split
  · rfl
  split
  · rfl
  split
  · rfl
  · exact (State.framed_afterAccepted _ _).store

/-- No write to a register reaches the store. -/
theorem State.Writes.store_eq {s t : State} {r : Reg} {v : Word} (h : s.Writes r v t) : t.store = s.store := by
  cases h with
  | quiesced => exact (State.store_settle _).trans (State.store_enterQuiescing _)
  | hubReset => rw [State.resetHub_eq]; exact State.store_settle _
  | violated => exact State.store_recordTrap _ _
  | sentDirect => exact (State.framed_send ..).store
  | popped => exact (State.store_settle _).trans (s.store_popLog _)
  | stopped => exact (State.store_settle _).trans (State.framed_reexamine ..).store
  | flushedNow => exact (State.store_settle _).trans (State.framed_produceFlushed ..).store
  | resumed => exact State.store_settle _
  | resetCh => rw [State.resetChan_eq]; exact State.store_settle _
  | same | registers | acked | resumedAll | setChannel | posted | stray | assigned | threshold | flushed => rfl

/-- What a command makes of the store's words. -/
theorem State.Does.store_eq {s t : State} {i : Instr} (h : s.Does i t) : t.store = s.store ∨ i = .initialisationEnd ∧
    t.store = [] ∨ (∃ w v, i = .storageFailure w v ∧ t.store = s.store.put w.toNat (StoreWord.disagreeing v)) ∨
    (i = .storeAccessDone ∧ ((∃ a : Access, t.store = a.storeEffect s.store) ∨
      ∃ (w : StoreIndex) (v : Word), t.store = s.store.put w.toNat (StoreWord.agreeing v))) := by
  cases h with
  | written => exact .inl (s.writes_writeReg ..).store_eq
  | violated => exact .inl (State.store_recordTrap ..)
  | refused => exact .inl (State.store_recordTrap ..)
  | direct c res => left; rw [State.store_settle]; cases res <;> rfl
  | waits => exact .inl (State.store_settle _)
  | atPort _ _ _ _ _ course => exact .inl ((State.store_settle _).trans course.framed.store)
  | taken _ _ _ _ _ _ _ course => exact .inl ((State.store_settle _).trans course.framed.store)
  | issued => exact .inl (State.store_settle _)
  | accessed _ _ _ course => exact .inl ((State.store_settle _).trans course.framed.store)
  | hostStored r =>
    rw [State.store_settle]
    unfold State.hostAccessDone
    split
    · exact .inr (.inr (.inr ⟨rfl, .inr ⟨_, _, rfl⟩⟩))
    · dsimp only
      split <;> exact .inl rfl
  | stored _ a _ course => exact .inr (.inr (.inr ⟨rfl, .inl ⟨a, (State.store_settle _).trans course.framed.store⟩⟩))
  | initialised => rw [State.endInitialisation_eq]; exact .inr (.inl ⟨rfl, State.store_settle _⟩)
  | quiesces => exact .inl ((State.store_settle _).trans (State.store_enterQuiescing _))
  | broken w v => exact .inr (.inr (.inl ⟨w, v, rfl, rfl⟩))
  | same | answered | level | ticked | poweredOn | released | warned => exact .inl rfl

theorem State.Does.storeCanonical {s t : State} {i : Instr} (h : s.Does i t) (wf : s.storeCanonical) :
    t.storeCanonical := by
  unfold State.storeCanonical at wf ⊢
  rcases h.store_eq with same | ⟨-, empty⟩ | ⟨w, v, -, put⟩ | ⟨-, ⟨a, effect⟩ | ⟨w, v, put⟩⟩
  · rw [same]; exact wf
  · rw [empty]; rfl
  · rw [put]; exact Store.wf_put _ _ _ wf w.isLt
  · rw [effect]; exact Access.wf_storeEffect a _ wf
  · rw [put]; exact Store.wf_put _ _ _ wf w.isLt

/-! ### The answer timers (R5, R6, R8, R10) -/

/-- Every port whose answer timer follows its link goes on so. -/
def State.LinksKept (s t : State) : Prop := ∀ x, (s.port x).followsLink → (t.port x).followsLink

theorem State.LinksKept.of_ports {s t : State} (h : t.ports = s.ports) : State.LinksKept s t := by
  intro x
  unfold State.port
  rw [h]
  exact id

theorem State.LinksKept.trans {s t u : State} (h : State.LinksKept s t) (k : State.LinksKept t u) :
    State.LinksKept s u := fun x hx => k x (h x hx)

theorem State.LinksKept.settle {s t : State} (h : State.LinksKept s t) : State.LinksKept s t.settle :=
  h.trans (.of_ports (State.ports_settle t))

/-- Engine work touches its own port alone, and keeps its timer with its link. -/
theorem State.LinksKept.of_work {c : Chan} {s t : State} (f : State.Framed c s t) (w : State.Worked c s t) :
    State.LinksKept s t := by
  intro x
  by_cases own : x = c
  · rw [own]; exact w.link
  · rw [f.port x own]; exact id

theorem State.Coursed.links {c : Chan} {s t : State} (h : State.Coursed c s t) : State.LinksKept s t := by
  obtain ⟨u, v, captured, framed, worked, -, logged⟩ := h
  have first : State.LinksKept s u := by
    rcases captured with rfl | ⟨w, rfl⟩
    · exact .of_ports rfl
    · exact .of_ports (s.capture_keeps c w).2.2.1
  rcases logged with rfl | ⟨-, r, rfl⟩
  · exact first.trans (.of_work framed worked)
  · exact (first.trans (.of_work framed worked)).trans (.of_ports (State.offered_logRecord ..).ports)

theorem State.links_modPort (s : State) (c : Chan) (f : Port → Port) (link : ∀ p, p.followsLink → (f p).followsLink) :
    State.LinksKept s (s.modPort c f) :=
  .of_work (State.framed_modPort s c f) (State.worked_modPort s c f (link _))

theorem State.links_enterQuiescing {s t : State} (h : t.ports = s.ports) : State.LinksKept s t.enterQuiescing :=
  State.enterQuiescing_induction (State.LinksKept s) t (.of_ports h) fun _ _ _ framed worked h =>
    h.trans (.of_work framed worked)

/-- An update that leaves every port's controller in LINK_IDLE with its timer stopped. -/
theorem State.links_map {s t : State} (f : Port → Port) (h : t.ports = s.ports.map f) (link : ∀ p, (f p).followsLink) :
    State.LinksKept s t := by
  intro x _
  unfold State.port
  rw [h, Vector.getElem_map]
  exact link _

theorem State.ports_popLog (s : State) (d : Dom) : (s.popLog d).ports = s.ports := by
  unfold State.popLog
  split
  · rfl
  split
  · rfl
  split
  · rfl
  · exact (State.offered_afterAccepted _ _).ports

theorem Timer.tick_eq_stopped (t : Timer) : t.tick = .stopped ↔ t = .stopped := by
  unfold Timer.tick
  split
  · exact iff_of_false nofun nofun
  · exact iff_of_false nofun nofun
  · rfl

theorem State.Writes.links {s t : State} {r : Reg} {v : Word} (h : s.Writes r v t) : State.LinksKept s t := by
  cases h with
  | quiesced => exact .settle (State.links_enterQuiescing rfl)
  | hubReset => rw [State.resetHub_eq]; exact .settle (State.links_map Port.afterReset rfl fun _ => ⟨fun _ => rfl, fun _ => rfl⟩)
  | violated => exact .of_ports (State.ports_recordTrap ..)
  | stray => exact State.links_modPort _ _ _ fun _ h => h
  | sentDirect di p k pl =>
    exact .trans (t := { s with direct := di }) (.of_ports rfl) (.of_work (State.framed_send ..) (State.worked_send ..))
  | popped => exact .of_ports ((State.ports_settle _).trans (s.ports_popLog _))
  | @stopped c =>
    unfold State.cmdStop
    have examined := State.LinksKept.of_work
      (State.framed_reexamine (s.modCh c fun ch =>
        { ch with armed := false, stopPending := ch.stopPending || ch.state.stoppable }) c) (State.worked_reexamine _ c)
    exact .settle (fun x hx => examined x hx)
  | flushedNow => exact .of_ports ((State.ports_settle _).trans (State.offered_produceFlushed ..).ports)
  | resumed => exact .of_ports (State.ports_settle _)
  | @resetCh c =>
    rw [State.resetChan_eq]
    exact .settle (.trans (State.links_modPort s c
      (fun p => { p with outstanding := none, timer := .stopped, hailSeen := false, stray := false })
      fun _ _ => ⟨fun _ => rfl, fun _ => rfl⟩) (.of_ports rfl))
  | same | registers | acked | resumedAll | setChannel | posted | assigned | threshold | flushed => exact .of_ports rfl

theorem State.Does.links {s t : State} {i : Instr} (h : s.Does i t) : State.LinksKept s t := by
  cases h with
  | written => exact (s.writes_writeReg ..).links
  | violated => exact .of_ports (State.ports_recordTrap ..)
  | refused => exact .of_ports (State.ports_recordTrap ..)
  | waits => exact .settle (.of_ports rfl)
  | level c f _ link => exact s.links_modPort c f link
  | direct c res =>
    exact .settle (.trans (.of_work (State.framed_endTransaction s c) (State.worked_endTransaction s c))
      (.of_ports (by cases res <;> rfl)))
  | atPort c f _ _ link course => exact .settle (.trans (s.links_modPort c f link) course.links)
  | taken _ _ _ _ _ _ _ course => exact .settle (.trans (.of_ports rfl) course.links)
  | issued => exact .settle (.of_ports rfl)
  | accessed _ _ _ course => exact .settle (.trans (.of_ports rfl) course.links)
  | hostStored r =>
    refine .settle (.of_ports ?_)
    unfold State.hostAccessDone
    split
    · rfl
    · dsimp only
      split <;> rfl
  | stored _ _ _ course => exact .settle (.trans (.of_ports rfl) course.links)
  | ticked =>
    intro x
    simp only [State.tickAll, State.port, Vector.getElem_map, Port.followsLink, Timer.tick_eq_stopped]
    exact id
  | poweredOn => exact State.links_map Port.afterReset rfl fun _ => ⟨fun _ => rfl, fun _ => rfl⟩
  | initialised =>
    rw [State.endInitialisation_eq]
    exact .settle (State.links_map (fun p => { p with outstanding := none, timer := .stopped, stray := false }) rfl
      fun _ => ⟨fun _ => rfl, fun _ => rfl⟩)
  | quiesces => exact .settle (State.links_enterQuiescing rfl)
  | same | answered | released | warned | broken => exact .of_ports rfl

/-! ### Queues, logs and thresholds (R31, R91, R99) -/

/-- The bounds of one log. -/
def Log.bounded (l : Log) : Prop := l.records.length ≤ 16 ∧ l.threshold.toNat ≤ 16

theorem State.withinBounds_iff (s : State) :
    s.withinBounds ↔ (∀ c, (s.ch c).queue.length ≤ 6) ∧ ∀ d, (s.log d).bounded :=
  ⟨fun h => ⟨h.1, fun d => ⟨h.2.1 d, h.2.2 d⟩⟩, fun h => ⟨h.1, fun d => (h.2 d).1, fun d => (h.2 d).2⟩⟩

/-- An update that keeps every queue's and every log's bounds. -/
theorem State.withinBounds_of {s t : State} (h : s.withinBounds)
    (queue : ∀ c, (s.ch c).queue.length ≤ 6 → (t.ch c).queue.length ≤ 6)
    (logs : ∀ d, (s.log d).bounded → (t.log d).bounded) : t.withinBounds := by
  rw [State.withinBounds_iff] at h ⊢
  exact ⟨fun c => queue c (h.1 c), fun d => logs d (h.2 d)⟩

theorem State.withinBounds_of_eq {s t : State} (h : s.withinBounds) (channels : t.channels = s.channels)
    (logs : t.logs = s.logs) : t.withinBounds :=
  State.withinBounds_of h (fun c => by unfold State.ch; rw [channels]; exact id)
    fun d => by unfold State.log; rw [logs]; exact id

theorem State.withinBounds_modCh {s : State} (h : s.withinBounds) (c : Chan) (f : Channel → Channel)
    (queue : (s.ch c).queue.length ≤ 6 → (f (s.ch c)).queue.length ≤ 6) : (s.modCh c f).withinBounds :=
  State.withinBounds_of h (fun x => by
    by_cases own : x = c
    · rw [own, State.ch_modCh_same]; exact queue
    · rw [State.ch_modCh_ne s f own]; exact id) fun _ b => b

theorem State.withinBounds_modLog {s : State} (h : s.withinBounds) (d : Dom) (f : Log → Log)
    (bounded : (s.log d).bounded → (f (s.log d)).bounded) : (s.modLog d f).withinBounds :=
  State.withinBounds_of h (fun _ b => b) fun x => by
    by_cases own : x = d
    · rw [own, State.log_modLog_same]; exact bounded
    · rw [State.log_modLog_ne s f own]; exact id

theorem State.withinBounds_settle {s : State} (h : s.withinBounds) : s.settle.withinBounds :=
  State.withinBounds_of h (fun c => by rw [State.ch_settle, Channel.pendingEffects_eq]; exact id)
    fun d => by rw [State.log_settle]; exact id

theorem State.Framed.queue {c : Chan} {s t : State} (f : State.Framed c s t) (x : Chan) :
    (t.ch x).queue = (s.ch x).queue := by
  by_cases own : x = c
  · rw [own]; exact f.own_queue
  · rw [f.ch x own]

theorem State.withinBounds_work {c : Chan} {s t : State} (f : State.Framed c s t) (w : State.Worked c s t)
    (h : s.withinBounds) : t.withinBounds :=
  State.withinBounds_of h (fun x => by rw [f.queue x]; exact id) fun d => by unfold State.log; rw [w.logs]; exact id

theorem State.Offered.withinBounds {c : Chan} {s t : State} (o : State.Offered c s t) (h : s.withinBounds) :
    t.withinBounds :=
  State.withinBounds_of h (fun x => by rw [o.framed.queue x]; exact id) fun d b => by
    refine ⟨?_, o.framed.threshold d ▸ b.2⟩
    by_cases own : d = (s.ch c).domain
    · rw [own]; exact o.bound (own ▸ b.1)
    · rw [o.log d own]; exact b.1

theorem State.Coursed.withinBounds {c : Chan} {s t : State} (course : State.Coursed c s t) (h : s.withinBounds) :
    t.withinBounds := by
  obtain ⟨u, v, captured, framed, worked, -, logged⟩ := course
  have first : u.withinBounds := by
    rcases captured with rfl | ⟨w, rfl⟩
    · exact h
    · exact State.withinBounds_of h (fun x => by rw [(s.framed_capture c w).queue x]; exact id)
        fun d => by unfold State.log; rw [(s.capture_keeps c w).1]; exact id
  have quiet := State.withinBounds_work framed worked first
  rcases logged with rfl | ⟨-, r, rfl⟩
  · exact quiet
  · exact (v.offered_logRecord c r).withinBounds quiet

theorem State.withinBounds_enterQuiescing {s : State} (h : s.withinBounds) : s.enterQuiescing.withinBounds :=
  State.enterQuiescing_induction State.withinBounds s h fun _ _ _ framed worked => State.withinBounds_work framed worked

/-- A pop removes a record, and admits at most one in its place. -/
theorem State.withinBounds_popLog {s : State} (h : s.withinBounds) (d : Dom) : (s.popLog d).withinBounds := by
  unfold State.popLog
  split
  · exact h
  next head rest records =>
    have fits : rest.length + 1 ≤ 16 := by
      have := h.2.1 d
      rw [records] at this
      exact this
    split
    · exact State.withinBounds_modLog h d _ fun b => ⟨by dsimp only; omega, b.2⟩
    split
    · exact State.withinBounds_modLog h d _ fun b => ⟨by dsimp only; omega, b.2⟩
    · refine (State.offered_afterAccepted _ _).withinBounds (State.withinBounds_modCh ?_ _ _ id)
      exact State.withinBounds_modLog h d _ fun b => ⟨by simp; omega, b.2⟩

theorem State.withinBounds_reset : State.reset.withinBounds := by
  refine ⟨?_, ?_, ?_⟩ <;> decide +kernel

theorem State.Writes.withinBounds {s t : State} {r : Reg} {v : Word} (w : s.Writes r v t) (h : s.withinBounds) :
    t.withinBounds := by
  cases w with
  | quiesced =>
    refine State.withinBounds_settle (State.withinBounds_enterQuiescing ?_)
    exact State.withinBounds_of_eq h rfl rfl
  | hubReset =>
    rw [State.resetHub_eq]
    exact State.withinBounds_settle (State.withinBounds_of_eq State.withinBounds_reset rfl rfl)
  | setChannel f set => exact State.withinBounds_modCh h _ f (set.queue ▸ id)
  | violated f x set =>
    exact State.withinBounds_of_eq (State.withinBounds_modCh h _ f (set.queue ▸ id)) (State.channels_recordTrap ..)
      (State.logs_recordTrap ..)
  | posted e _ place => exact State.withinBounds_modCh h _ _ fun _ => by simp; omega
  | assigned c f set => exact State.withinBounds_modCh h c f (set.queue ▸ id)
  | sentDirect di p k pl =>
    refine State.withinBounds_work (State.framed_send { s with direct := di } p _ k pl) (State.worked_send ..) ?_
    exact State.withinBounds_of_eq h rfl rfl
  | threshold x bound => exact State.withinBounds_modLog h _ _ fun b => ⟨b.1, bound⟩
  | popped => exact State.withinBounds_settle (State.withinBounds_popLog h _)
  | @stopped c =>
    have disarmed := State.withinBounds_modCh h c
      (fun ch => { ch with armed := false, stopPending := ch.stopPending || ch.state.stoppable }) id
    have examined := State.withinBounds_work (State.framed_reexamine _ c) (State.worked_reexamine _ c) disarmed
    exact State.withinBounds_settle (State.withinBounds_modCh examined c _ id)
  | flushed => exact State.withinBounds_modCh h _ _ fun _ => Nat.zero_le _
  | flushedNow f _ _ _ _ queue =>
    refine State.withinBounds_settle ((State.offered_produceFlushed _ _).withinBounds ?_)
    exact State.withinBounds_modCh h _ f fun _ => by rw [queue]; exact Nat.zero_le _
  | resumed => exact State.withinBounds_settle (State.withinBounds_modCh h _ _ id)
  | @resetCh c =>
    rw [State.resetChan_eq]
    refine State.withinBounds_settle (State.withinBounds_of (State.withinBounds_modCh h c Channel.afterReset fun _ =>
      Nat.zero_le _) (fun _ b => b) fun d b => ?_)
    simp only [State.log, Vector.getElem_map]
    exact b
  | same | registers | acked | resumedAll | stray => exact State.withinBounds_of_eq h rfl rfl

theorem State.Does.withinBounds {s t : State} {i : Instr} (does : s.Does i t) (h : s.withinBounds) : t.withinBounds := by
  have alike : ∀ u : State, u.channels = s.channels → u.logs = s.logs → u.withinBounds := fun u =>
    State.withinBounds_of_eq h
  cases does with
  | written => exact (s.writes_writeReg ..).withinBounds h
  | violated => exact alike _ (State.channels_recordTrap ..) (State.logs_recordTrap ..)
  | refused => exact alike _ (State.channels_recordTrap ..) (State.logs_recordTrap ..)
  | waits => exact State.withinBounds_settle (alike _ rfl rfl)
  | direct c res => exact State.withinBounds_settle (by cases res <;> exact alike _ rfl rfl)
  | atPort c f _ _ _ course => exact State.withinBounds_settle (course.withinBounds (alike _ rfl rfl))
  | taken c e rest _ _ queue _ course =>
    refine State.withinBounds_settle (course.withinBounds (State.withinBounds_modCh h c _ fun b => ?_))
    rw [queue] at b
    exact le_trans (Nat.le_succ _) b
  | issued => exact State.withinBounds_settle (alike _ rfl rfl)
  | accessed _ _ _ course => exact State.withinBounds_settle (course.withinBounds (alike _ rfl rfl))
  | hostStored r =>
    refine State.withinBounds_settle ?_
    unfold State.hostAccessDone
    split
    · exact alike _ rfl rfl
    · dsimp only
      split <;> exact alike _ rfl rfl
  | stored _ _ _ course => exact State.withinBounds_settle (course.withinBounds (alike _ rfl rfl))
  | ticked =>
    refine State.withinBounds_of h (fun c b => ?_) fun _ b => b
    simp only [State.tickAll, State.ch, Vector.getElem_map]
    exact b
  | poweredOn => exact State.withinBounds_of_eq State.withinBounds_reset rfl rfl
  | initialised => rw [State.endInitialisation_eq]; exact State.withinBounds_settle (alike _ rfl rfl)
  | quiesces => exact State.withinBounds_settle (State.withinBounds_enterQuiescing (alike _ rfl rfl))
  | same => exact h
  | answered | level | released | warned | broken => exact alike _ rfl rfl

/-! ### Steps -/

/-- A step does what some command does to the state with the queue's rest, or nothing. -/
theorem step_does {s t : State} (h : step s = .next t) :
    t = s ∨ ∃ i rest, s.pending = i :: rest ∧ State.Does { s with pending := rest } i t := by
  unfold step at h
  split at h
  · cases h; exact .inl rfl
  · exact .inr ⟨_, _, by assumption, State.does_of_exec h⟩

/-- Settles O56, by what each command can do. -/
theorem stepsKeepStoreTimersAndBounds : Obligations.StepsKeepStoreTimersAndBounds := by
  intro s t h
  rcases step_does h with rfl | ⟨i, rest, -, does⟩
  · exact ⟨id, id, id⟩
  · exact ⟨does.storeCanonical, fun l c => does.links c (l c), does.withinBounds⟩

end Sys2Proof.Machine
end

section
/-! PROOF. Every step keeps the logs, the held records and the waiting lists consistent (O57). A step touches the logs on behalf of
one channel at a time: set that channel aside, and the rest stays consistent; put it back as the offer left it. -/

namespace Sys2Proof.Machine

/-! ### Channels that wait as before -/

/-- The channel waits on a log, or not, as before, and a return to rest leaves it no pending flush count. -/
structure Channel.StillLogs (a b : Channel) : Prop where
  logging : b.state = .logging ↔ a.state = .logging
  held : b.held.isSome = a.held.isSome
  domain : a.held.isSome = true → b.domain = a.domain
  flushed : (a.resting → a.flushCount = 0) → b.resting → b.flushCount = 0

theorem Channel.StillLogs.refl (a : Channel) : Channel.StillLogs a a := ⟨.rfl, rfl, fun _ => rfl, id⟩

/-- Steps that leave every channel's waiting alone, and the logs on which one waits, keep the consistency. -/
theorem State.logsConsistent_of_channels {s t : State} (h : s.logsConsistent)
    (channels : ∀ c, Channel.StillLogs (s.ch c) (t.ch c))
    (logs : ∀ d, (t.log d).waiting = (s.log d).waiting ∧
      ((s.log d).waiting ≠ [] → (t.log d).records.length = (s.log d).records.length)) : t.logsConsistent where
  holding c := by rw [(channels c).logging, (channels c).held]; exact h.holding c
  waiters d c := by
    rw [(logs d).1, (channels c).held, h.waiters d c]
    refine and_congr_right fun held => ?_
    rw [(channels c).domain held]
  once d := by rw [(logs d).1]; exact h.once d
  full d waiting := by
    rw [(logs d).1] at waiting
    rw [(logs d).2 waiting, h.full d waiting]
  flushed c := (channels c).flushed (h.flushed c)

theorem State.logsConsistent_of_eq {s t : State} (h : s.logsConsistent) (channels : t.channels = s.channels)
    (logs : t.logs = s.logs) : t.logsConsistent :=
  State.logsConsistent_of_channels h (fun c => by unfold State.ch; rw [channels]; exact .refl _)
    fun d => by unfold State.log; rw [logs]; exact ⟨rfl, fun _ => rfl⟩

/-- A change of one channel that leaves its waiting alone. -/
theorem State.logsConsistent_modCh {s : State} (h : s.logsConsistent) (c : Chan) (f : Channel → Channel)
    (still : Channel.StillLogs (s.ch c) (f (s.ch c))) : (s.modCh c f).logsConsistent :=
  State.logsConsistent_of_channels h (fun x => by
    by_cases own : x = c
    · rw [own, State.ch_modCh_same]; exact still
    · rw [State.ch_modCh_ne s f own]; exact .refl _) fun _ => ⟨rfl, fun _ => rfl⟩

/-- A channel that does not wait on a log holds no record. -/
theorem State.logsConsistent.held_none {s : State} (h : s.logsConsistent) {c : Chan} (awake : (s.ch c).state ≠ .logging) :
    (s.ch c).held = none := by
  rw [← Option.not_isSome_iff_eq_none, ← h.holding c]
  exact awake

/-! ### One channel set aside -/

/-- The logs, the held records and the waiting lists are consistent, channel `c` set aside. -/
structure State.ConsistentBut (c : Chan) (s : State) : Prop where
  holding : ∀ x, x ≠ c → ((s.ch x).state = .logging ↔ (s.ch x).held.isSome)
  waiters : ∀ d x, x ∈ (s.log d).waiting ↔ x ≠ c ∧ (s.ch x).held.isSome ∧ (s.ch x).domain = d
  once : ∀ d, (s.log d).waiting.Nodup
  full : ∀ d, (s.log d).waiting ≠ [] → (s.log d).records.length = 16
  flushed : ∀ x, x ≠ c → (s.ch x).resting → (s.ch x).flushCount = 0

/-- A channel that holds no record is on no waiting list. -/
theorem State.logsConsistent.but {s : State} (h : s.logsConsistent) {c : Chan} (none : (s.ch c).held = none) :
    s.ConsistentBut c where
  holding x _ := h.holding x
  waiters d x := by
    rw [h.waiters d x]
    refine ⟨fun w => ⟨?_, w⟩, And.right⟩
    rintro rfl
    rw [none] at w
    cases w.1
  once := h.once
  full := h.full
  flushed x _ := h.flushed x

/-- What becomes of the channel set aside does not matter. -/
theorem State.ConsistentBut.modCh {s : State} {c : Chan} (h : s.ConsistentBut c) (f : Channel → Channel) :
    (s.modCh c f).ConsistentBut c where
  holding x other := by rw [State.ch_modCh_ne s f other]; exact h.holding x other
  waiters d x := by
    rw [State.log_modCh, h.waiters d x]
    exact and_congr_right fun other => by rw [State.ch_modCh_ne s f other]
  once := h.once
  full := h.full
  flushed x other := by rw [State.ch_modCh_ne s f other]; exact h.flushed x other

/-- The channel set aside has come to rest, or waits at the tail of the full log of its domain. -/
theorem State.ConsistentBut.rejoined {s t : State} {c : Chan} {d : Dom} (h : s.ConsistentBut c)
    (others : ∀ x, x ≠ c → t.ch x = s.ch x) (domain : (t.ch c).domain = d) (logs : ∀ x, x ≠ d → t.log x = s.log x)
    (outcome :
      ((t.log d).waiting = (s.log d).waiting ∧
        ((t.log d).records = (s.log d).records ∨ (s.log d).records.length < 16) ∧
        (t.ch c).resting ∧ (t.ch c).held = none ∧ (t.ch c).flushCount = 0) ∨
      ((t.log d).waiting = (s.log d).waiting ++ [c] ∧ (t.log d).records.length = 16 ∧
        (t.ch c).state = .logging ∧ (t.ch c).held.isSome = true)) : t.logsConsistent := by
  have own_waiting : (t.log d).waiting = (s.log d).waiting ++ if (t.ch c).held.isSome then [c] else [] := by
    rcases outcome with ⟨waiting, -, -, held, -⟩ | ⟨waiting, -, -, held⟩
    · rw [waiting, held]; exact (List.append_nil _).symm
    · rw [waiting, held]; rfl
  have absent : ∀ x, c ∉ (s.log x).waiting := fun x m => ((h.waiters x c).mp m).1 rfl
  refine ⟨fun x => ?_, fun e x => ?_, fun e => ?_, fun e waiting => ?_, fun x resting => ?_⟩
  · by_cases own : x = c
    · rw [own]
      rcases outcome with ⟨-, -, resting, held, -⟩ | ⟨-, -, logging, held⟩
      · rw [held]
        exact iff_of_false (fun l => by rcases resting with r | r <;> rw [l] at r <;> cases r) nofun
      · exact iff_of_true logging held
    · rw [others x own]; exact h.holding x own
  · have elsewhere : x ∈ (s.log e).waiting ↔ x ≠ c ∧ (t.ch x).held.isSome ∧ (t.ch x).domain = e := by
      rw [h.waiters e x]
      exact and_congr_right fun other => by rw [others x other]
    by_cases here : e = d
    · rw [here] at elsewhere ⊢
      rw [own_waiting, List.mem_append, elsewhere]
      by_cases own : x = c
      · rw [own, domain]
        cases (t.ch c).held.isSome <;> simp
      · have : x ∉ (if (t.ch c).held.isSome = true then [c] else []) := by split <;> simp [own]
        simp [own, this]
    · rw [logs e here, elsewhere]
      refine ⟨And.right, fun w => ⟨?_, w⟩⟩
      rintro rfl
      exact here (w.2.symm.trans domain)
  · by_cases here : e = d
    · rw [here, own_waiting]
      split
      · exact List.nodup_append.mpr ⟨h.once d, List.nodup_singleton c, fun a ha b hb => by
          rw [List.mem_singleton.mp hb]
          exact fun same => absent d (same ▸ ha)⟩
      · rw [List.append_nil]; exact h.once d
    · rw [logs e here]; exact h.once e
  · by_cases here : e = d
    · rw [here] at waiting ⊢
      rcases outcome with ⟨same, room, -⟩ | ⟨-, full, -⟩
      · rw [same] at waiting
        have full := h.full d waiting
        rcases room with records | room
        · rw [records]; exact full
        · omega
      · exact full
    · rw [logs e here] at waiting ⊢; exact h.full e waiting
  · by_cases own : x = c
    · rw [own] at resting ⊢
      rcases outcome with ⟨-, -, -, -, count⟩ | ⟨-, -, logging, -⟩
      · exact count
      · rcases resting with r | r <;> rw [logging] at r <;> cases r
    · rw [others x own] at resting ⊢; exact h.flushed x own resting

/-- An offer of the channel set aside makes the whole consistent again. -/
theorem State.Offered.logsConsistent {c : Chan} {s t : State} (o : State.Offered c s t) (h : s.ConsistentBut c)
    (b : s.withinBounds) : t.logsConsistent := by
  refine h.rejoined o.framed.ch o.framed.own_domain o.log ?_
  rcases o.outcome with accepted | ⟨waiting, full, logging, held⟩
  · exact .inl accepted
  · exact .inr ⟨waiting, le_antisymm (o.bound (b.2.1 _)) full, logging, held⟩

/-! ### The engine -/

theorem State.ne_of_resting {ch : Channel} (h : ch.resting) : ch.state ≠ .logging := by
  rintro l
  rcases h with r | r <;> rw [l] at r <;> cases r

/-- Engine work short of an offer leaves the channel's waiting alone. -/
theorem State.Worked.stillLogs {c : Chan} {s t : State} (w : State.Worked c s t) (f : State.Framed c s t)
    (l : (s.ch c).state = .logging → (t.ch c).state = .logging) : Channel.StillLogs (s.ch c) (t.ch c) where
  logging := by
    refine ⟨fun lt => ?_, l⟩
    rcases w.state with busy | same
    · exact absurd lt (ChState.ne_logging_of_busy busy)
    · rw [← same]; exact lt
  held := by rw [w.held]
  domain _ := f.own_domain
  flushed count resting := by
    rw [w.flushCount]
    rcases w.state with busy | same
    · rcases resting with r | r <;> rw [r] at busy <;> cases busy
    · exact count (by unfold Channel.resting at resting ⊢; rwa [same] at resting)

/-- Whatever an engine step brings about keeps the consistency. -/
theorem State.Coursed.logsConsistent {c : Chan} {s t : State} (course : State.Coursed c s t) (h : s.logsConsistent)
    (b : s.withinBounds) : t.logsConsistent := by
  obtain ⟨u, v, captured, framed, worked, stays, logged⟩ := course
  have first : u.logsConsistent ∧ u.withinBounds ∧ (u.ch c).state = (s.ch c).state := by
    rcases captured with rfl | ⟨w, rfl⟩
    · exact ⟨h, b, rfl⟩
    · obtain ⟨logs, -, -, held, count, state⟩ := s.capture_keeps c w
      have framed := s.framed_capture c w
      refine ⟨State.logsConsistent_of_channels h (fun x => ?_) fun d => ?_,
        State.Coursed.withinBounds ⟨_, _, .inr ⟨w, rfl⟩, .refl .., .refl .., fun l => state.trans l, .inl rfl⟩ b, state⟩
      · by_cases own : x = c
        · rw [own]
          exact ⟨by rw [state], by rw [held], fun _ => framed.own_domain, by unfold Channel.resting; rw [count, state]; exact id⟩
        · rw [framed.ch x own]; exact .refl _
      · unfold State.log; rw [logs]; exact ⟨rfl, fun _ => rfl⟩
  obtain ⟨consistent, bounds, state⟩ := first
  have quiet : v.logsConsistent :=
    State.logsConsistent_of_channels consistent (fun x => by
      by_cases own : x = c
      · rw [own]; exact worked.stillLogs framed (fun l => stays (state.symm.trans l))
      · rw [framed.ch x own]; exact .refl _) fun d => by unfold State.log; rw [worked.logs]; exact ⟨rfl, fun _ => rfl⟩
  rcases logged with rfl | ⟨busy, r, rfl⟩
  · exact quiet
  · have none : (v.ch c).held = none := by
      rw [worked.held]
      exact consistent.held_none (by rw [state]; exact ChState.ne_logging_of_busy busy)
    exact (v.offered_logRecord c r).logsConsistent (quiet.but none) (State.withinBounds_work framed worked bounds)

/-! ### What follows within a step, quiesce and the resets -/

theorem Channel.stillLogs_pendingEffects (ch : Channel) : Channel.StillLogs ch ch.domainEffect.detachEffect := by
  rw [Channel.pendingEffects_eq]
  refine ⟨.rfl, rfl, fun held => ?_, id⟩
  have : ch.empty = false := by
    unfold Channel.empty
    rw [Option.isNone_eq_false_iff.mpr held, Bool.and_false]
  simp [this]

theorem State.logsConsistent_settle {s : State} (h : s.logsConsistent) : s.settle.logsConsistent :=
  State.logsConsistent_of_channels h (fun c => by rw [State.ch_settle]; exact Channel.stillLogs_pendingEffects _)
    fun d => by rw [State.log_settle]; exact ⟨rfl, fun _ => rfl⟩

theorem State.logsConsistent_enterQuiescing {s : State} (h : s.logsConsistent) (b : s.withinBounds) :
    s.enterQuiescing.logsConsistent := by
  have both : s.enterQuiescing.logsConsistent ∧ s.enterQuiescing.withinBounds := by
    unfold State.enterQuiescing
    refine State.forChans_induction (fun u => u.logsConsistent ∧ u.withinBounds) _ _
      ⟨State.logsConsistent_of_eq h rfl rfl, State.withinBounds_of_eq b rfl rfl⟩ fun c u ⟨hc, hb⟩ => ?_
    exact ⟨(u.coursed_reexamine c).logsConsistent hc hb, (u.coursed_reexamine c).withinBounds hb⟩
  exact both.1

theorem State.ch_reset (c : Chan) : State.reset.ch c = Channel.reset := by
  simp only [State.ch, State.reset, Vector.getElem_replicate]

theorem State.log_reset (d : Dom) : State.reset.log d = Log.reset := by
  simp only [State.log, State.reset, Vector.getElem_replicate]

theorem State.logsConsistent_reset : State.reset.logsConsistent where
  holding c := by rw [State.ch_reset]; exact iff_of_false nofun nofun
  waiters d c := by rw [State.ch_reset, State.log_reset]; exact iff_of_false nofun fun h => nomatch h.1
  once d := by rw [State.log_reset]; exact List.nodup_nil
  full d h := by rw [State.log_reset] at h; exact absurd rfl h
  flushed c _ := by rw [State.ch_reset]; rfl

/-- A channel that is reset leaves the waiting lists and is idle, with nothing held (R83, R94). -/
theorem State.logsConsistent_resetChan {s : State} (h : s.logsConsistent) (c : Chan) :
    (s.resetChan c).logsConsistent := by
  rw [State.resetChan_eq]
  refine State.logsConsistent_settle ?_
  have left : (s.leaveWaiting c).ConsistentBut c :=
    { holding := fun x _ => h.holding x
      waiters := fun d x => by
        simp only [State.leaveWaiting, State.log, Vector.getElem_map, List.mem_filter]
        rw [show x ∈ (s.logs[d.val]).waiting ↔ _ from h.waiters d x]
        simp only [decide_not, Bool.not_eq_eq_eq_not, Bool.not_true, decide_eq_false_iff_not]
        exact And.comm
      once := fun d => by
        simp only [State.leaveWaiting, State.log, Vector.getElem_map]
        exact (h.once d).filter _
      full := fun d waiting => by
        simp only [State.leaveWaiting, State.log, Vector.getElem_map] at waiting ⊢
        exact h.full d fun none => waiting (by rw [show (s.logs[d.val]).waiting = [] from none]; rfl)
      flushed := fun x _ => h.flushed x }
  have rejoined : ((s.leaveWaiting c).modCh c Channel.afterReset).logsConsistent :=
    left.rejoined (fun x other => State.ch_modCh_ne _ _ other) rfl (fun _ _ => rfl) (.inl ⟨rfl, .inl rfl, by
      rw [State.ch_modCh_same]; exact ⟨.inl rfl, rfl, rfl⟩⟩)
  exact State.logsConsistent_of_eq rejoined rfl rfl

/-! ### The logs' own commands -/

/-- A LOG_POP lets the channel at the head of the waiting list in (R95). -/
theorem State.logsConsistent_popLog {s : State} (h : s.logsConsistent) (b : s.withinBounds) (d : Dom) :
    (s.popLog d).logsConsistent := by
  unfold State.popLog
  split
  · exact h
  next first rest records =>
    split
    next empty =>
      refine State.logsConsistent_of_channels h (fun c => .refl _) fun x => ?_
      by_cases here : x = d
      · rw [here, State.log_modLog_same]
        exact ⟨rfl, fun waiting => absurd empty waiting⟩
      · rw [State.log_modLog_ne _ _ here]; exact ⟨rfl, fun _ => rfl⟩
    next c others waiting =>
      have full : rest.length + 1 = 16 := by
        have := h.full d (by rw [waiting]; exact List.cons_ne_nil _ _)
        rw [records] at this
        exact this
      obtain ⟨held, domain⟩ := (h.waiters d c).mp (by rw [waiting]; exact List.mem_cons_self)
      obtain ⟨fresh, once⟩ := List.nodup_cons.mp (waiting ▸ h.once d)
      split
      next none => rw [none] at held; cases held
      next r _ =>
        have left : (s.modLog d fun l => { l with records := rest ++ [r], waiting := others }).ConsistentBut c :=
          { holding := fun x _ => h.holding x
            waiters := fun e x => by
              by_cases here : e = d
              · rw [here, State.log_modLog_same, State.ch_modLog, ← h.waiters d x, waiting, List.mem_cons]
                refine ⟨fun m => ⟨fun same => fresh (same ▸ m), .inr m⟩, fun ⟨other, m⟩ => m.resolve_left other⟩
              · rw [State.log_modLog_ne _ _ here, State.ch_modLog, h.waiters e x]
                refine ⟨fun m => ⟨?_, m⟩, And.right⟩
                rintro rfl
                exact here (m.2.symm.trans domain)
            once := fun e => by
              by_cases here : e = d
              · rw [here, State.log_modLog_same]; exact once
              · rw [State.log_modLog_ne _ _ here]; exact h.once e
            full := fun e ne => by
              by_cases here : e = d
              · rw [here, State.log_modLog_same, List.length_append]; exact full
              · rw [State.log_modLog_ne _ _ here] at ne ⊢; exact h.full e ne
            flushed := fun x _ => h.flushed x }
        refine (State.offered_afterAccepted _ c).logsConsistent (left.modCh _) (State.withinBounds_modCh ?_ _ _ id)
        exact State.withinBounds_modLog b d _ fun b => ⟨by rw [List.length_append]; exact full.le, b.2⟩

/-! ### Every command -/

theorem State.channels_send (s : State) (c : Chan) (i : Issuer) (k : Kind) (p : Payload) :
    (s.send c i k p).channels = s.channels := by
  unfold State.send
  split <;> rfl

theorem Channel.Set.stillLogs {a b : Channel} (set : Channel.Set a b) : Channel.StillLogs a b :=
  ⟨by rw [set.state], by rw [set.held], fun _ => set.domain, by unfold Channel.resting; rw [set.flushCount, set.state]; exact id⟩

theorem Channel.Assigned.stillLogs {a b : Channel} (set : Channel.Assigned a b) : Channel.StillLogs a b := by
  refine ⟨by rw [set.state], by rw [set.held], fun held => ?_, by unfold Channel.resting; rw [set.flushCount, set.state]; exact id⟩
  refine set.domain.resolve_right fun empty => ?_
  unfold Channel.empty at empty
  rw [Option.isNone_eq_false_iff.mpr held, Bool.and_false] at empty
  cases empty

theorem State.Writes.logsConsistent {s t : State} {r : Reg} {v : Word} (w : s.Writes r v t) (h : s.logsConsistent)
    (b : s.withinBounds) : t.logsConsistent := by
  have alike : ∀ u : State, u.channels = s.channels → u.logs = s.logs → u.logsConsistent := fun u =>
    State.logsConsistent_of_eq h
  cases w with
  | quiesced => exact State.logsConsistent_settle (State.logsConsistent_enterQuiescing (alike _ rfl rfl) (State.withinBounds_of_eq b rfl rfl))
  | hubReset =>
    rw [State.resetHub_eq]
    exact State.logsConsistent_settle (State.logsConsistent_of_eq State.logsConsistent_reset rfl rfl)
  | setChannel f set => exact State.logsConsistent_modCh h _ f set.stillLogs
  | violated f x set =>
    exact State.logsConsistent_of_eq (State.logsConsistent_modCh h _ f set.stillLogs) (State.channels_recordTrap ..)
      (State.logs_recordTrap ..)
  | posted => exact State.logsConsistent_modCh h _ _ ⟨.rfl, rfl, fun _ => rfl, id⟩
  | assigned c f set => exact State.logsConsistent_modCh h c f set.stillLogs
  | sentDirect di p k pl =>
    have framed := State.framed_send { s with direct := di } p .direct k pl
    have worked := State.worked_send { s with direct := di } p .direct k pl
    have same := State.channels_send { s with direct := di } p .direct k pl
    refine State.Coursed.logsConsistent (.ofWork framed worked fun l => ?_) (alike _ rfl rfl) (State.withinBounds_of_eq b rfl rfl)
    unfold State.ch at l ⊢
    rw [same]; exact l
  | @threshold l x _ n =>
    refine State.logsConsistent_of_channels h (fun _ => .refl _) fun d => ?_
    by_cases here : d = l
    · rw [here, State.log_modLog_same]; exact ⟨rfl, fun _ => rfl⟩
    · rw [State.log_modLog_ne _ _ here]; exact ⟨rfl, fun _ => rfl⟩
  | popped => exact State.logsConsistent_settle (State.logsConsistent_popLog h b _)
  | @stopped c =>
    have disarmed := State.logsConsistent_modCh h c
      (fun ch => { ch with armed := false, stopPending := ch.stopPending || ch.state.stoppable })
      ⟨.rfl, rfl, fun _ => rfl, id⟩
    have bounds := State.withinBounds_modCh b c
      (fun ch => { ch with armed := false, stopPending := ch.stopPending || ch.state.stoppable }) id
    have examined := (State.coursed_reexamine _ c).logsConsistent disarmed bounds
    exact State.logsConsistent_settle (State.logsConsistent_modCh examined c _ ⟨.rfl, rfl, fun _ => rfl, id⟩)
  | @flushed c _ _ n st active =>
    exact State.logsConsistent_modCh h c _ ⟨.rfl, rfl, fun _ => rfl, fun _ resting => absurd resting active⟩
  | @flushedNow c _ _ f resting _ _ _ queue =>
    refine State.logsConsistent_settle ((State.offered_produceFlushed _ _).logsConsistent ?_ ?_)
    · exact (h.but (h.held_none (State.ne_of_resting resting))).modCh f
    · exact State.withinBounds_modCh b c f fun _ => by rw [queue]; exact Nat.zero_le _
  | @resumed c _ _ halted =>
    refine State.logsConsistent_settle (State.logsConsistent_modCh h c _
      ⟨iff_of_false nofun (by rw [halted]; exact nofun), rfl, fun _ => rfl, fun count _ => count (.inr halted)⟩)
  | resetCh => exact State.logsConsistent_resetChan h _
  | same | registers | acked | resumedAll | stray => exact alike _ rfl rfl

theorem State.Does.logsConsistent {s t : State} {i : Instr} (does : s.Does i t) (h : s.logsConsistent)
    (b : s.withinBounds) : t.logsConsistent := by
  have alike : ∀ u : State, u.channels = s.channels → u.logs = s.logs → u.logsConsistent := fun u =>
    State.logsConsistent_of_eq h
  have bounds : ∀ u : State, u.channels = s.channels → u.logs = s.logs → u.withinBounds := fun u =>
    State.withinBounds_of_eq b
  cases does with
  | written => exact (s.writes_writeReg ..).logsConsistent h b
  | violated => exact alike _ (State.channels_recordTrap ..) (State.logs_recordTrap ..)
  | refused => exact alike _ (State.channels_recordTrap ..) (State.logs_recordTrap ..)
  | waits => exact State.logsConsistent_settle (alike _ rfl rfl)
  | direct c res => exact State.logsConsistent_settle (by cases res <;> exact alike _ rfl rfl)
  | atPort c f _ _ _ course =>
    exact State.logsConsistent_settle (course.logsConsistent (alike _ rfl rfl) (bounds _ rfl rfl))
  | taken c e rest _ _ queue can course =>
    have idle : (s.ch c).state = .idle := by
      simp only [State.canTake, Bool.and_eq_true, beq_iff_eq] at can
      tauto
    refine State.logsConsistent_settle (course.logsConsistent (State.logsConsistent_modCh h c _ ?_)
      (State.withinBounds_modCh b c _ fun b => ?_))
    · exact ⟨iff_of_false nofun (by rw [idle]; exact nofun), rfl, fun _ => rfl, fun _ resting => by
        rcases resting with r | r <;> cases r⟩
    · rw [queue] at b
      exact le_trans (Nat.le_succ _) b
  | issued => exact State.logsConsistent_settle (alike _ rfl rfl)
  | accessed _ _ _ course =>
    exact State.logsConsistent_settle (course.logsConsistent (alike _ rfl rfl) (bounds _ rfl rfl))
  | hostStored r =>
    refine State.logsConsistent_settle ?_
    unfold State.hostAccessDone
    split
    · exact alike _ rfl rfl
    · dsimp only
      split <;> exact alike _ rfl rfl
  | stored _ _ _ course =>
    exact State.logsConsistent_settle (course.logsConsistent (alike _ rfl rfl) (bounds _ rfl rfl))
  | ticked =>
    refine State.logsConsistent_of_channels h (fun c => ?_) fun _ => ⟨rfl, fun _ => rfl⟩
    simp only [State.tickAll, State.ch, Vector.getElem_map]
    exact ⟨.rfl, rfl, fun _ => rfl, id⟩
  | poweredOn => exact State.logsConsistent_of_eq State.logsConsistent_reset rfl rfl
  | initialised => rw [State.endInitialisation_eq]; exact State.logsConsistent_settle (alike _ rfl rfl)
  | quiesces =>
    exact State.logsConsistent_settle (State.logsConsistent_enterQuiescing (alike _ rfl rfl) (bounds _ rfl rfl))
  | same => exact h
  | answered | level | released | warned | broken => exact alike _ rfl rfl

/-- Settles O57, by what each command can do. -/
theorem stepsKeepTheLogsConsistent : Obligations.StepsKeepTheLogsConsistent := by
  intro s t b h stepped
  rcases step_does stepped with rfl | ⟨i, rest, -, does⟩
  · exact h
  · exact does.logsConsistent (State.logsConsistent_of_eq h rfl rfl) (State.withinBounds_of_eq b rfl rfl)

end Sys2Proof.Machine
end

section
/-! PROOF. No step leaves undone what comes about at once (O58): `State.settle` leaves nothing undone whatever it meets, and a
command that does not end in it changes no condition on which something waits. -/

namespace Sys2Proof.Machine

/-! ### After `State.settle` -/

/-- No pending change of the channel can take effect (R120, R155). -/
def Channel.caughtUp (ch : Channel) : Prop :=
  (ch.detachPending = true → ¬ ch.resting) ∧ (ch.pendingDomain.isSome = true → ch.empty = false)

theorem Channel.caughtUp_pendingEffects (ch : Channel) : ch.domainEffect.detachEffect.caughtUp := by
  rw [Channel.pendingEffects_eq]
  refine ⟨fun pending resting => ?_, fun pending => ?_⟩
  · have active : ch.state ≠ .idle ∧ ch.state ≠ .halted := by
      simp only [Bool.and_eq_true, bne_iff_ne] at pending
      exact ⟨pending.1.2, pending.2⟩
    exact resting.elim active.1 active.2
  · dsimp only at pending
    split at pending
    · cases pending
    next active => exact Bool.eq_false_iff.mpr active

/-- The arbiter leaves the store free only when nobody waits for it (R132). -/
theorem State.grant_free (s : State) (free : s.grant.granted = none) :
    s.grant.hostWaiting = [] ∧ ∀ c, s.grant.storeReq c = none := by
  unfold State.grant at free ⊢
  split at free
  next busy => rw [busy] at free; cases free
  next none =>
    split at free
    next alone =>
      obtain ⟨r, rest, waits⟩ := List.exists_cons_of_ne_nil alone.1
      simp [State.grantHost, waits] at free
    next =>
      split at free
      next first =>
        obtain ⟨r, rest, waits⟩ := List.exists_cons_of_ne_nil first.1
        simp [State.grantHost, waits] at free
      next alone first =>
        rw [if_neg alone, if_neg first]
        unfold State.grantChannel at free ⊢
        split at free
        next nobody =>
          have noChannel := (nextAfter_eq_none _ _).mp nobody
          have noRequest : ∀ c, s.storeReq c = Option.none := fun c => by simpa using noChannel c
          have unwaited : s.channelWaits = false := by
            unfold State.channelWaits
            rw [Bool.eq_false_iff, ne_eq, allChans_any]
            simpa using noRequest
          exact ⟨by by_contra waits; exact alone ⟨waits, unwaited⟩, noRequest⟩
        next c found =>
          have waits := ((nextAfter_eq_some _ _ c).mp found).1
          split at free
          next gone => rw [gone] at waits; cases waits
          next => cases free

/-- A presented request is one of a REQUESTED slot, and there is one if some slot is REQUESTED (R125). -/
theorem State.present_presents (s : State) :
    (s.present.presented = none → ∀ c, (s.mem c).isRequested = false) ∧
      ∀ c, s.present.presented = some c → (s.mem c).isRequested = true := by
  have next : ∀ u : State, u.presented = nextAfter s.servicePointer (fun c => (s.mem c).isRequested) →
      (u.presented = none → ∀ c, (s.mem c).isRequested = false) ∧
        ∀ c, u.presented = some c → (s.mem c).isRequested = true := fun u h => by
    rw [h]
    exact ⟨(nextAfter_eq_none _ _).mp, fun c found => ((nextAfter_eq_some _ _ c).mp found).1⟩
  unfold State.present
  split
  next c shown =>
    split
    next requested =>
      rw [shown]
      refine ⟨nofun, fun x same => ?_⟩
      cases same
      exact requested
    next => exact next _ rfl
  next => exact next _ rfl

theorem State.settled_settle (s : State) (c : Chan) : s.settle.settled c = s.settled c :=
  State.settled_congr s s.settle c (by rw [State.ch_settle, Channel.pendingEffects_eq])
    (by rw [State.ch_settle, Channel.pendingEffects_eq])

theorem State.atRest_settle (s : State) : s.settle.atRest = s.atRest := by
  unfold State.atRest
  simp only [State.settled_settle]
  rw [State.settle_eq]

/-- `State.settle` leaves nothing undone. -/
theorem State.caughtUp_settle (s : State) : s.settle.caughtUp where
  detach c := by rw [State.ch_settle]; exact (s.ch c).caughtUp_pendingEffects.1
  domain c := by rw [State.ch_settle]; exact (s.ch c).caughtUp_pendingEffects.2
  store free := by
    rw [State.settle_eq] at free ⊢
    exact s.grant_free free
  idlePort idle c := by
    rw [State.mem_settle]
    rw [State.settle_eq] at idle
    exact s.present_presents.1 idle c
  presents c shown := by
    rw [State.mem_settle]
    rw [State.settle_eq] at shown
    exact s.present_presents.2 c shown
  quiesce quiescing := by
    rw [State.atRest_settle]
    by_contra rest
    rw [Bool.not_eq_false] at rest
    rw [State.settle_eq] at quiescing
    dsimp only at quiescing
    split at quiescing
    · cases quiescing
    next active => exact active ⟨quiescing, rest⟩

/-! ### Commands that do not settle -/

/-- A command that touches neither the arbiter nor the presentation, and changes no condition on which a channel or quiesce
waits. -/
theorem State.caughtUp_of {s t : State} (h : s.caughtUp) (channels : ∀ c, (s.ch c).caughtUp → (t.ch c).caughtUp)
    (quiesce : t.hubState = .quiescing → t.atRest = false)
    (ports : t.granted = s.granted ∧ t.hostWaiting = s.hostWaiting ∧ t.storeRequests = s.storeRequests ∧
      t.presented = s.presented)
    (slots : ∀ c, (t.mem c).isRequested = (s.mem c).isRequested) : t.caughtUp := by
  obtain ⟨granted, waiting, requests, presented⟩ := ports
  have caught : ∀ c, (t.ch c).caughtUp := fun c => channels c ⟨h.detach c, h.domain c⟩
  refine ⟨fun c => (caught c).1, fun c => (caught c).2, fun free => ?_, fun idle c => ?_, fun c shown => ?_, quiesce⟩
  · rw [granted] at free
    rw [waiting]
    refine ⟨(h.store free).1, fun c => ?_⟩
    unfold State.storeReq
    rw [requests]
    exact (h.store free).2 c
  · rw [slots]; exact h.idlePort (presented ▸ idle) c
  · rw [slots]; exact h.presents c (presented ▸ shown)

/-- A hub that is not at rest is not brought to rest: no channel settles and a busy direct slot stays busy. -/
theorem State.atRest_false_of {s t : State} (h : s.atRest = false) (settled : ∀ c, t.settled c = s.settled c)
    (busy : s.direct.result = .busy → t.direct.result = .busy) : t.atRest = false := by
  rw [Bool.eq_false_iff] at h ⊢
  refine fun rest => h ?_
  rw [State.atRest_iff] at rest ⊢
  exact ⟨fun c => settled c ▸ rest.1 c, fun b => rest.2 (busy b)⟩

/-- An update that leaves the channels, the slots, the arbiter, the presentation, the direct slot and the hub state. -/
theorem State.caughtUp_of_eq {s t : State} (h : s.caughtUp) (channels : t.channels = s.channels)
    (ports : t.granted = s.granted ∧ t.hostWaiting = s.hostWaiting ∧ t.storeRequests = s.storeRequests ∧
      t.presented = s.presented) (slots : t.slots = s.slots) (hub : t.hubState = s.hubState)
    (busy : s.direct.result = .busy → t.direct.result = .busy) : t.caughtUp := by
  have same : ∀ c, t.ch c = s.ch c := fun c => by unfold State.ch; rw [channels]
  refine State.caughtUp_of h (fun c => by rw [same]; exact id) (fun quiescing => ?_) ports
    fun c => by unfold State.mem; rw [slots]
  exact State.atRest_false_of (h.quiesce (hub ▸ quiescing))
    (fun c => State.settled_congr s t c (by rw [same]) (by rw [same])) busy

/-- A change of one channel that neither settles it nor lets a pending change take effect. -/
theorem State.caughtUp_modCh {s : State} (h : s.caughtUp) (c : Chan) (f : Channel → Channel)
    (channel : (s.ch c).caughtUp → (f (s.ch c)).caughtUp) (state : (f (s.ch c)).state = (s.ch c).state)
    (held : (f (s.ch c)).held = (s.ch c).held) : (s.modCh c f).caughtUp := by
  refine State.caughtUp_of h (fun x => ?_) (fun quiescing => ?_) ⟨rfl, rfl, rfl, rfl⟩ fun _ => rfl
  · by_cases own : x = c
    · rw [own, State.ch_modCh_same]; exact channel
    · rw [State.ch_modCh_ne s f own]; exact id
  · refine State.atRest_false_of (h.quiesce quiescing) (fun x => ?_) id
    by_cases own : x = c
    · rw [own]; exact State.settled_congr _ _ c (by rw [State.ch_modCh_same, state]) (by rw [State.ch_modCh_same, held])
    · exact State.settled_congr _ _ x (by rw [State.ch_modCh_ne s f own]) (by rw [State.ch_modCh_ne s f own])

theorem State.caughtUp_recordTrap {s : State} (h : s.caughtUp) (x : Trap) : (s.recordTrap x).caughtUp := by
  unfold State.recordTrap
  split
  · exact State.caughtUp_of_eq h rfl ⟨rfl, rfl, rfl, rfl⟩ rfl rfl id
  · exact State.caughtUp_of_eq h rfl ⟨rfl, rfl, rfl, rfl⟩ rfl rfl id

theorem Channel.Set.caughtUp {a b : Channel} (set : Channel.Set a b) (h : a.caughtUp) : b.caughtUp := by
  obtain ⟨detach, domain⟩ := h
  refine ⟨fun pending => ?_, ?_⟩
  · unfold Channel.resting
    rw [set.state]
    exact (set.detach pending).elim detach id
  · unfold Channel.empty
    rw [set.pendingDomain, set.state, set.queue, set.held]
    exact domain

theorem Channel.Assigned.caughtUp {a b : Channel} (set : Channel.Assigned a b) (h : a.caughtUp) : b.caughtUp := by
  refine ⟨?_, ?_⟩
  · unfold Channel.resting
    rw [set.state, set.detachPending]
    exact h.1
  · unfold Channel.empty
    rw [set.state, set.queue, set.held]
    exact set.pendingDomain

theorem Channel.empty_of_not_resting {ch : Channel} (active : ¬ ch.resting) : ch.empty = false := by
  unfold Channel.resting at active
  unfold Channel.empty
  simp [active]

theorem State.caughtUp_reset : State.reset.caughtUp where
  detach c := by rw [State.ch_reset]; exact nofun
  domain c := by rw [State.ch_reset]; exact nofun
  store _ := ⟨rfl, fun c => by simp [State.storeReq, State.reset]⟩
  idlePort _ c := by simp [State.mem, State.reset, MemSlot.isRequested, MemSlot.reset]
  presents := nofun
  quiesce := nofun

/-! ### Every command -/

theorem State.Writes.caughtUp {s t : State} {r : Reg} {v : Word} (w : s.Writes r v t) (h : s.caughtUp) : t.caughtUp := by
  cases w with
  | same => exact h
  | registers _ _ _ _ _ _ _ _ _ busy => exact State.caughtUp_of_eq h rfl ⟨rfl, rfl, rfl, rfl⟩ rfl rfl busy
  | acked | stray | threshold => exact State.caughtUp_of_eq h rfl ⟨rfl, rfl, rfl, rfl⟩ rfl rfl id
  | resumedAll => exact State.caughtUp_of h (fun _ => id) nofun ⟨rfl, rfl, rfl, rfl⟩ fun _ => rfl
  | setChannel f set => exact State.caughtUp_modCh h _ f set.caughtUp set.state set.held
  | violated f x set => exact State.caughtUp_recordTrap (State.caughtUp_modCh h _ f set.caughtUp set.state set.held) x
  | posted e settled =>
    refine State.caughtUp_modCh h _ _ (fun caught => ⟨caught.1, fun pending => ?_⟩) rfl rfl
    rw [show Channel.pendingDomain _ = none from settled] at pending
    cases pending
  | assigned c f set => exact State.caughtUp_modCh h c f set.caughtUp set.state set.held
  | sentDirect di p k pl admits =>
    have framed := State.framed_send { s with direct := di } p .direct k pl
    refine State.caughtUp_of h (fun c => ?_) (fun quiescing => ?_)
      ⟨framed.granted, framed.hostWaiting, ?_, framed.presented⟩ fun c => ?_
    · unfold State.ch; rw [State.channels_send]; exact id
    · exact absurd (.inl (framed.hubState.symm.trans quiescing)) admits
    · unfold State.send; split <;> rfl
    · unfold State.send; split <;> rfl
  | flushed n st active =>
    exact State.caughtUp_modCh h _ _ (fun caught => ⟨caught.1, fun _ => Channel.empty_of_not_resting active⟩) rfl rfl
  | hubReset => rw [State.resetHub_eq]; exact State.caughtUp_settle _
  | stopped => exact State.caughtUp_settle _
  | resetCh => exact State.caughtUp_settle _
  | quiesced | popped | flushedNow | resumed => exact State.caughtUp_settle _

theorem Slot.isRequested_tick (m : MemSlot) : MemSlot.isRequested { m with slot := m.slot.tick } = m.isRequested := by
  rcases m with ⟨slot, need⟩
  cases slot <;> rfl

theorem State.Does.caughtUp {s t : State} {i : Instr} (does : s.Does i t) (h : s.caughtUp) : t.caughtUp := by
  cases does with
  | same => exact h
  | written => exact (s.writes_writeReg ..).caughtUp h
  | violated => exact State.caughtUp_recordTrap h _
  | refused => exact State.caughtUp_of_eq (State.caughtUp_recordTrap h _) rfl ⟨rfl, rfl, rfl, rfl⟩ rfl rfl id
  | answered | level | released | warned | broken => exact State.caughtUp_of_eq h rfl ⟨rfl, rfl, rfl, rfl⟩ rfl rfl id
  | ticked =>
    have ticks : ∀ c, s.tickAll.ch c =
        { s.ch c with readyTimer := (s.ch c).readyTimer.tick, paceTimer := (s.ch c).paceTimer.tick } := fun c => by
      simp only [State.tickAll, State.ch, Vector.getElem_map]
    refine State.caughtUp_of h (fun c => by rw [ticks]; exact id) (fun quiescing => ?_) ⟨rfl, rfl, rfl, rfl⟩ fun c => ?_
    · exact State.atRest_false_of (h.quiesce quiescing)
        (fun c => State.settled_congr _ _ c (by rw [ticks]) (by rw [ticks])) id
    · simp only [State.tickAll, State.mem, Vector.getElem_map]
      exact Slot.isRequested_tick _
  | poweredOn => exact State.caughtUp_of_eq State.caughtUp_reset rfl ⟨rfl, rfl, rfl, rfl⟩ rfl rfl id
  | initialised => rw [State.endInitialisation_eq]; exact State.caughtUp_settle _
  | waits | direct | atPort | taken | issued | accessed | hostStored | stored | quiesces => exact State.caughtUp_settle _

/-- Settles O58, by what each command can do. -/
theorem stepsLeaveNothingUndone : Obligations.StepsLeaveNothingUndone := by
  intro s t h stepped
  rcases step_does stepped with rfl | ⟨i, rest, -, does⟩
  · exact h
  · exact does.caughtUp (State.caughtUp_of_eq h rfl ⟨rfl, rfl, rfl, rfl⟩ rfl rfl id)

/-- Settles O55: the values of section 11.8 meet each invariant. -/
theorem resetMeetsEveryInvariant : Obligations.ResetMeetsEveryInvariant := by
  refine ⟨State.reset_store_wf, fun c => ?_, State.withinBounds_reset, State.logsConsistent_reset, State.caughtUp_reset⟩
  simp [State.port, State.reset, Port.reset]

end Sys2Proof.Machine
end

section
/-! PROOF. What only the named commands undo (O59): an armed flag, QUIESCED, the records of a log, a violation held, the windows
and the store's words. -/

namespace Sys2Proof.Machine

/-! ### What is kept -/

/-- What only named commands undo, but for the store's words. -/
inductive Undoing
  | disarm (c : Chan)
  | leaveQuiesced
  | dropRecords (l : Dom)
  | dropTrap
  | moveWindows

/-- From one state to the next nothing is undone but what `U` allows. -/
structure State.KeepsBut (U : Undoing → Prop) (s t : State) : Prop where
  armed : ∀ c, (s.ch c).armed = true → (t.ch c).armed = true ∨ U (.disarm c)
  quiesced : s.hubState = .quiesced → t.hubState = .quiesced ∨ U .leaveQuiesced
  records : ∀ l, (s.log l).records <+: (t.log l).records ∨ U (.dropRecords l)
  trap : ∀ x, s.trap = some x → t.trap = some x ∨ U .dropTrap
  windows : t.windows = s.windows ∨ U .moveWindows

/-- Everything is allowed. -/
theorem State.KeepsBut.all {U : Undoing → Prop} (h : ∀ x, U x) (s t : State) : State.KeepsBut U s t :=
  ⟨fun _ _ => .inr (h _), fun _ => .inr (h _), fun _ => .inr (h _), fun _ _ => .inr (h _), .inr (h _)⟩

theorem State.KeepsBut.mono {U V : Undoing → Prop} {s t : State} (h : State.KeepsBut U s t) (k : ∀ x, U x → V x) :
    State.KeepsBut V s t :=
  ⟨fun c a => (h.armed c a).imp_right (k _), fun q => (h.quiesced q).imp_right (k _),
    fun l => (h.records l).imp_right (k _), fun x hx => (h.trap x hx).imp_right (k _), h.windows.imp_right (k _)⟩

theorem State.KeepsBut.trans {U : Undoing → Prop} {s t u : State} (h : State.KeepsBut U s t) (k : State.KeepsBut U t u) :
    State.KeepsBut U s u where
  armed c a := (h.armed c a).elim (k.armed c) .inr
  quiesced q := (h.quiesced q).elim k.quiesced .inr
  records l := (h.records l).elim (fun p => (k.records l).imp_left p.trans) .inr
  trap x hx := (h.trap x hx).elim (k.trap x) .inr
  windows := h.windows.elim (fun e => k.windows.imp_left fun e' => e'.trans e) .inr

theorem State.KeepsBut.of_eq {U : Undoing → Prop} {s t : State} (channels : t.channels = s.channels)
    (hub : t.hubState = s.hubState) (logs : t.logs = s.logs) (trap : t.trap = s.trap) (windows : t.windows = s.windows) :
    State.KeepsBut U s t where
  armed c a := .inl (by unfold State.ch at a ⊢; rw [channels]; exact a)
  quiesced q := .inl (hub.trans q)
  records l := .inl (by unfold State.log; rw [logs])
  trap x hx := .inl (trap.trans hx)
  windows := .inl windows

/-- Work on behalf of one channel that keeps a violation held. -/
theorem State.KeepsBut.of_framed {U : Undoing → Prop} {c : Chan} {s t : State} (f : State.Framed c s t)
    (trap : ∀ x, s.trap = some x → t.trap = some x) : State.KeepsBut U s t where
  armed x a := .inl (by
    by_cases own : x = c
    · rw [own] at a ⊢; exact f.own_armed.trans a
    · rw [f.ch x own]; exact a)
  quiesced q := .inl (f.hubState.trans q)
  records l := .inl (f.records l)
  trap x hx := .inl (trap x hx)
  windows := .inl f.windows

theorem State.keeps_settle {U : Undoing → Prop} (s : State) : State.KeepsBut U s s.settle where
  armed c a := .inl (by rw [State.ch_settle, Channel.pendingEffects_eq]; exact a)
  quiesced q := .inl ((s.hubState_settle (by rw [q]; exact nofun)).trans q)
  records l := .inl (by rw [State.log_settle])
  trap x hx := .inl (by rw [State.trap_settle]; exact hx)
  windows := .inl (State.windows_settle s)

theorem State.KeepsBut.settle {U : Undoing → Prop} {s t : State} (h : State.KeepsBut U s t) :
    State.KeepsBut U s t.settle := h.trans (State.keeps_settle t)

/-- A change of one channel. -/
theorem State.keeps_modCh {U : Undoing → Prop} (s : State) (c : Chan) (f : Channel → Channel)
    (armed : (s.ch c).armed = true → (f (s.ch c)).armed = true ∨ U (.disarm c)) : State.KeepsBut U s (s.modCh c f) where
  armed x a := by
    by_cases own : x = c
    · rw [own] at a ⊢; rw [State.ch_modCh_same]; exact armed a
    · rw [State.ch_modCh_ne s f own]; exact .inl a
  quiesced := .inl
  records _ := .inl List.prefix_rfl
  trap _ := .inl
  windows := .inl rfl

/-- A change of one log. -/
theorem State.keeps_modLog {U : Undoing → Prop} (s : State) (l : Dom) (f : Log → Log)
    (records : (s.log l).records <+: (f (s.log l)).records ∨ U (.dropRecords l)) : State.KeepsBut U s (s.modLog l f) where
  armed _ := .inl
  quiesced := .inl
  records x := by
    by_cases own : x = l
    · rw [own, State.log_modLog_same]; exact records
    · rw [State.log_modLog_ne s f own]; exact .inl List.prefix_rfl
  trap _ := .inl
  windows := .inl rfl

theorem State.keeps_recordTrap {U : Undoing → Prop} (s : State) (x : Trap) : State.KeepsBut U s (s.recordTrap x) :=
  .of_framed (State.framed_recordTrap s 0 x) fun y => s.trap_recordTrap_of_full x y

theorem State.Coursed.keeps {U : Undoing → Prop} {c : Chan} {s t : State} (course : State.Coursed c s t) :
    State.KeepsBut U s t := by
  refine .of_framed course.framed fun x hx => ?_
  obtain ⟨u, v, captured, -, worked, -, logged⟩ := course
  have first : u.trap = some x := by
    rcases captured with rfl | ⟨w, rfl⟩
    · exact hx
    · rw [(s.capture_keeps c w).2.1]; exact hx
  rcases logged with rfl | ⟨-, r, rfl⟩
  · exact worked.trap x first
  · rw [(v.offered_logRecord c r).trap]; exact worked.trap x first

theorem State.keeps_enterQuiescing {U : Undoing → Prop} (s : State) (awake : s.hubState = .operational) :
    State.KeepsBut U s s.enterQuiescing := by
  have entered : State.KeepsBut U s { s with hubState := .quiescing } :=
    ⟨fun _ => .inl, fun q => (nomatch awake.symm.trans q), fun _ => .inl List.prefix_rfl, fun _ => .inl, .inl rfl⟩
  exact State.enterQuiescing_induction (State.KeepsBut U s) s entered fun _ _ _ framed worked h =>
    h.trans (.of_framed framed worked.trap)

/-! ### Writes -/

/-- What a permitted write of the value to the register may undo. -/
def undoneBy (r : Reg) (v : Word) (x : Undoing) : Prop :=
  (r = .hubCommand ∧ v.toNat = 1) ∨
  match x with
  | .disarm c => r = .ch c .command ∧ (v.toNat = 2 ∨ v.toNat = 5)
  | .leaveQuiesced => r = .hubCommand ∧ v.toNat = 3
  | .dropRecords l => r = .log l .pop
  | .dropTrap => r = .trapAck
  | .moveWindows => r.isWindow = true

theorem State.keeps_popLog (s : State) (l : Dom) (v : Word) : State.KeepsBut (undoneBy (.log l .pop) v) s (s.popLog l) := by
  have dropped : undoneBy (.log l .pop) v (.dropRecords l) := .inr rfl
  unfold State.popLog
  split
  · exact .of_eq rfl rfl rfl rfl rfl
  split
  · exact s.keeps_modLog l _ (.inr dropped)
  split
  · exact s.keeps_modLog l _ (.inr dropped)
  · exact ((s.keeps_modLog l _ (.inr dropped)).trans (State.keeps_modCh _ _ _ .inl)).trans
      (.of_framed (State.framed_afterAccepted _ _) fun x hx => (State.offered_afterAccepted _ _).trap.trans hx)

theorem State.Writes.keeps {s t : State} {r : Reg} {v : Word} (w : s.Writes r v t) :
    State.KeepsBut (undoneBy r v) s t := by
  cases w with
  | same | stray => exact .of_eq rfl rfl rfl rfl rfl
  | registers hl td mt w sc di ev _ window =>
    refine ⟨fun _ => .inl, .inl, fun _ => .inl List.prefix_rfl, fun _ => .inl, ?_⟩
    exact Decidable.or_iff_not_imp_left.mpr fun moved => .inr (window moved)
  | acked =>
    exact ⟨fun _ => .inl, .inl, fun _ => .inl List.prefix_rfl, fun _ _ => .inr (.inr rfl), .inl rfl⟩
  | resumedAll value =>
    exact ⟨fun _ => .inl, fun _ => .inr (.inr ⟨rfl, value⟩), fun _ => .inl List.prefix_rfl, fun _ => .inl, .inl rfl⟩
  | quiesced operational =>
    have noted : State.KeepsBut (undoneBy .hubCommand v) s { s with hubLastCmd := .accepted } := .of_eq rfl rfl rfl rfl rfl
    exact .settle (noted.trans (State.keeps_enterQuiescing _ operational))
  | hubReset value => exact .all (fun _ => .inl ⟨rfl, value⟩) _ _
  | setChannel f set => exact s.keeps_modCh _ f fun a => .inl (set.armed a)
  | violated f x set => exact (s.keeps_modCh _ f fun a => .inl (set.armed a)).trans (State.keeps_recordTrap _ x)
  | posted | flushed => exact s.keeps_modCh _ _ .inl
  | assigned c f set => exact s.keeps_modCh c f fun a => .inl (set.armed.trans a)
  | sentDirect di p k pl =>
    have noted : State.KeepsBut (undoneBy .dirCommand v) s { s with direct := di } := .of_eq rfl rfl rfl rfl rfl
    exact noted.trans (.of_framed (State.framed_send _ p _ k pl) (State.worked_send _ p _ k pl).trap)
  | threshold => exact s.keeps_modLog _ _ (.inl List.prefix_rfl)
  | popped => exact .settle (s.keeps_popLog _ v)
  | @stopped c _ value =>
    have disarmed : undoneBy (.ch c .command) v (.disarm c) := .inr ⟨rfl, .inl value⟩
    exact .settle (((s.keeps_modCh c _ fun _ => .inr disarmed).trans (State.coursed_reexamine _ c).keeps).trans
      (State.keeps_modCh _ c _ .inl))
  | flushedNow f _ armed =>
    exact .settle ((s.keeps_modCh _ f fun a => .inl (armed.trans a)).trans
      (.of_framed (State.framed_produceFlushed _ _) fun x hx => (State.offered_produceFlushed _ _).trap.trans hx))
  | resumed => exact .settle (s.keeps_modCh _ _ .inl)
  | @resetCh c _ value =>
    rw [State.resetChan_eq]
    have reset : undoneBy (.ch c .command) v (.disarm c) := .inr ⟨rfl, .inr value⟩
    have left : State.KeepsBut (undoneBy (.ch c .command) v) s (s.leaveWaiting c) :=
      ⟨fun _ => .inl, .inl, fun l => .inl (by simp [State.leaveWaiting, State.log]), fun _ => .inl, .inl rfl⟩
    exact .settle ((left.trans (State.keeps_modCh _ c Channel.afterReset fun _ => .inr reset)).trans
      (.of_eq rfl rfl rfl rfl rfl))

/-! ### The command that a write is -/

/-- A granted write of a command that fits is a row of its own, or a write to a register that has none. -/
theorem spelled_of_fits {s : State} {i : Instr} {d : Dom} {r : Reg} {v : Word} (w : writesTo i d r v) (fits : s.fits i)
    (granted : s.grants d r.offset = true) :
    writeOf i = some (d, r, v) ∨ (i = .registerWrite d .word r.offset v ∧ hasOwnRow r v = false) := by
  rcases w with spelled | rfl | rfl
  · exact .inl spelled
  · refine .inr ⟨rfl, ?_⟩
    have formed := fits.1
    simpa [Instr.wellFormed, regAt_offset, actedOn, Reg.toNat_offset, Reg.offsetNat_mod_four] using formed
  · rw [fits.2 d _ _ rfl] at granted
    cases granted

/-- A granted write to a register whose every write has its own row spells that row. -/
theorem spelled_of_ownRow {s : State} {i : Instr} {d : Dom} {r : Reg} {v : Word} (w : writesTo i d r v) (fits : s.fits i)
    (granted : s.grants d r.offset = true) (own : hasOwnRow r v = true) : writeOf i = some (d, r, v) :=
  (spelled_of_fits w fits granted).resolve_right fun h => by rw [own] at h; cases h.2

theorem hubReset_of_spelled {i : Instr} {d : Dom} {v : Word} (h : writeOf i = some (d, .hubCommand, v))
    (formed : i.wellFormed = true) (value : v.toNat = 1) : i = .hubReset d := by
  cases i <;> simp only [writeOf, Option.some.injEq, Prod.mk.injEq, reduceCtorEq, and_false, false_and] at h <;>
    obtain ⟨rfl, -, rfl⟩ := h
  · rfl
  · cases value
  · cases value
  · simp [Instr.wellFormed, value] at formed

theorem resumeAll_of_spelled {i : Instr} {d : Dom} {v : Word} (h : writeOf i = some (d, .hubCommand, v))
    (formed : i.wellFormed = true) (value : v.toNat = 3) : i = .resumeAll d := by
  cases i <;> simp only [writeOf, Option.some.injEq, Prod.mk.injEq, reduceCtorEq, and_false, false_and] at h <;>
    obtain ⟨rfl, -, rfl⟩ := h
  · cases value
  · cases value
  · rfl
  · simp [Instr.wellFormed, value] at formed

theorem disarming_of_spelled {i : Instr} {d : Dom} {c : Chan} {v : Word} (h : writeOf i = some (d, .ch c .command, v))
    (formed : i.wellFormed = true) (value : v.toNat = 2 ∨ v.toNat = 5) : i = .stop d c ∨ i = .resetChannel d c := by
  cases i <;> simp only [writeOf, Option.some.injEq, Prod.mk.injEq, Reg.ch.injEq, reduceCtorEq, and_false, false_and] at h <;>
    obtain ⟨rfl, ⟨rfl, -⟩, rfl⟩ := h
  case stop => exact .inl rfl
  case resetChannel => exact .inr rfl
  case chCommandUnassigned => rcases value with value | value <;> simp [Instr.wellFormed, value] at formed
  all_goals rcases value with value | value <;> cases value

theorem logPop_of_spelled {i : Instr} {d l : Dom} {v : Word} (h : writeOf i = some (d, .log l .pop, v)) :
    i = .logPop d l := by
  cases i <;> simp only [writeOf, Option.some.injEq, Prod.mk.injEq, Reg.log.injEq, reduceCtorEq, and_false, false_and] at h
  obtain ⟨rfl, ⟨rfl, -⟩, rfl⟩ := h
  rfl

theorem trapAck_of_spelled {i : Instr} {d : Dom} {v : Word} (h : writeOf i = some (d, .trapAck, v)) :
    i = .grdTrapAck d := by
  cases i <;> simp only [writeOf, Option.some.injEq, Prod.mk.injEq, reduceCtorEq, and_false, false_and] at h
  obtain ⟨rfl, -, rfl⟩ := h
  rfl

theorem supervisorOnly_of_isWindow {r : Reg} (window : r.isWindow = true) : r.supervisorOnly = true := by
  cases r with
  | id | ch | log => cases window
  | _ => rfl

/-- No row spells a write to a window register. -/
theorem not_spelled_of_isWindow {i : Instr} {d : Dom} {r : Reg} {v : Word} (window : r.isWindow = true) :
    writeOf i ≠ some (d, r, v) := by
  intro h
  cases i <;> simp only [writeOf, Option.some.injEq, Prod.mk.injEq, reduceCtorEq] at h <;>
    obtain ⟨-, rfl, -⟩ := h <;> cases window

/-! ### Commands -/

/-- The named commands that may undo each item. -/
def namedToUndo (i : Instr) (x : Undoing) : Prop :=
  (i = .hubReset 0 ∨ i = .powerOnReset) ∨
  match x with
  | .disarm c => (∃ d, i = .stop d c) ∨ ∃ d, i = .resetChannel d c
  | .leaveQuiesced => i = .resumeAll 0
  | .dropRecords l => ∃ d, i = .logPop d l
  | .dropTrap => i = .grdTrapAck 0
  | .moveWindows => ∃ off v, i = .registerWrite 0 .word off v

/-- What a granted write undoes, the command that it is was named for. -/
theorem named_of_undoneBy {s : State} {i : Instr} {d : Dom} {r : Reg} {v : Word} (w : writesTo i d r v) (fits : s.fits i)
    (granted : s.grants d r.offset = true) (x : Undoing) (undone : undoneBy r v x) : namedToUndo i x := by
  have supervisor : r.supervisorOnly = true → d = 0 := fun only => by
    rw [grants_supervisor s d r only] at granted
    exact eq_of_beq granted
  rcases undone with ⟨rfl, value⟩ | undone
  · cases supervisor rfl
    exact .inl (.inl (hubReset_of_spelled (spelled_of_ownRow w fits granted rfl) fits.1 value))
  · cases x with
    | disarm c =>
      obtain ⟨rfl, value⟩ := undone
      exact .inr ((disarming_of_spelled (spelled_of_ownRow w fits granted rfl) fits.1 value).imp (⟨d, ·⟩) (⟨d, ·⟩))
    | leaveQuiesced =>
      obtain ⟨rfl, value⟩ := undone
      cases supervisor rfl
      exact .inr (resumeAll_of_spelled (spelled_of_ownRow w fits granted rfl) fits.1 value)
    | dropRecords l =>
      obtain rfl : r = .log l .pop := undone
      exact .inr ⟨d, logPop_of_spelled (spelled_of_ownRow w fits granted rfl)⟩
    | dropTrap =>
      obtain rfl : r = .trapAck := undone
      cases supervisor rfl
      exact .inr (trapAck_of_spelled (spelled_of_ownRow w fits granted rfl))
    | moveWindows =>
      have window : r.isWindow = true := undone
      cases supervisor (supervisorOnly_of_isWindow window)
      rcases spelled_of_fits w fits granted with spelled | ⟨rfl, -⟩
      · exact absurd spelled (not_spelled_of_isWindow window)
      · exact .inr ⟨_, _, rfl⟩

theorem State.Does.keeps {s t : State} {i : Instr} (does : s.Does i t) (fits : s.fits i) :
    State.KeepsBut (namedToUndo i) s t := by
  cases does with
  | same | answered | level | released | warned | broken => exact .of_eq rfl rfl rfl rfl rfl
  | written w _ granted => exact (s.writes_writeReg ..).keeps.mono (named_of_undoneBy w fits granted)
  | violated => exact s.keeps_recordTrap _
  | refused => exact (s.keeps_recordTrap _).trans (.of_eq rfl rfl rfl rfl rfl)
  | waits => exact .settle (.of_eq rfl rfl rfl rfl rfl)
  | direct c res => exact .settle (by cases res <;> exact .of_eq rfl rfl rfl rfl rfl)
  | atPort c f u _ _ course =>
    exact .settle ((State.KeepsBut.of_framed (s.framed_modPort c f) fun _ => id).trans course.keeps)
  | taken c e rest u _ _ _ course => exact .settle ((s.keeps_modCh c _ .inl).trans course.keeps)
  | issued => exact .settle (.of_eq rfl rfl rfl rfl rfl)
  | accessed c u _ course =>
    exact .settle (State.KeepsBut.trans (t := s.modMem c MemSlot.free) (.of_eq rfl rfl rfl rfl rfl) course.keeps)
  | hostStored r =>
    refine .settle ?_
    unfold State.hostAccessDone
    split
    · exact .of_eq rfl rfl rfl rfl rfl
    · dsimp only
      split <;> exact .of_eq rfl rfl rfl rfl rfl
  | stored c a u course =>
    exact .settle (State.KeepsBut.trans (t := { s with granted := none, store := a.storeEffect s.store })
      (.of_eq rfl rfl rfl rfl rfl) course.keeps)
  | ticked =>
    refine ⟨fun c a => .inl ?_, .inl, fun _ => .inl List.prefix_rfl, fun _ => .inl, .inl rfl⟩
    simp only [State.tickAll, State.ch, Vector.getElem_map]
    exact a
  | poweredOn => exact .all (fun _ => .inl (.inr rfl)) _ _
  | initialised initialising =>
    rw [State.endInitialisation_eq]
    refine .settle ⟨fun _ => .inl, fun q => ?_, fun _ => .inl List.prefix_rfl, fun _ => .inl, .inl rfl⟩
    rw [initialising] at q
    cases q
  | quiesces operational =>
    have noted : State.KeepsBut (namedToUndo .supplyWarnAssert) s { s with supplyWarn := true } := .of_eq rfl rfl rfl rfl rfl
    exact .settle (noted.trans (State.keeps_enterQuiescing _ operational))

/-- Settles O59, by what each command can do. -/
theorem onlyNamedCommandsUndo : Obligations.OnlyNamedCommandsUndo := by
  intro s t i fits next
  have does := State.does_of_exec next
  obtain ⟨armed, quiesced, records, trap, windows⟩ := does.keeps fits
  refine ⟨fun c set unset => ?_, fun q left => ?_, fun l dropped => ?_, fun x held dropped => ?_, fun moved => ?_,
    fun changed => ?_⟩
  · rcases (armed c set).resolve_left (by rw [unset]; exact nofun) with reset | stop | resetCh
    · exact .inr (.inr reset)
    · exact .inl stop
    · exact .inr (.inl resetCh)
  · exact ((quiesced q).resolve_left left).symm
  · exact ((records l).resolve_left dropped).symm
  · exact ((trap x held).resolve_left dropped).symm
  · exact (windows.resolve_left moved).symm
  · rcases does.store_eq with same | ⟨ended, -⟩ | ⟨w, v, broken, -⟩ | ⟨completed, -⟩
    · exact absurd same changed
    · exact .inr (.inr ended)
    · exact .inr (.inl ⟨w, v, broken⟩)
    · exact .inl completed

end Sys2Proof.Machine
end

section
/-! PROOF. A tenant's access leaves alone what another domain owns (O60). -/

namespace Sys2Proof.Machine

/-! ### What another domain owns -/

/-- What domain `d` does not own is the same. -/
structure State.LeavesOthers (d : Dom) (s t : State) : Prop where
  ch : ∀ c, (s.ch c).domain ≠ d → t.ch c = s.ch c
  port : ∀ c, (s.ch c).domain ≠ d → t.port c = s.port c
  mem : ∀ c, (s.ch c).domain ≠ d → t.mem c = s.mem c
  storeReq : ∀ c, (s.ch c).domain ≠ d → t.storeReq c = s.storeReq c
  log : ∀ l, l ≠ d → t.log l = s.log l
  windows : t.windows = s.windows
  screen : t.screen = s.screen
  store : t.store = s.store

theorem State.LeavesOthers.refl (d : Dom) (s : State) : State.LeavesOthers d s s :=
  ⟨fun _ _ => rfl, fun _ _ => rfl, fun _ _ => rfl, fun _ _ => rfl, fun _ _ => rfl, rfl, rfl, rfl⟩

theorem State.LeavesOthers.trans {d : Dom} {s t u : State} (h : State.LeavesOthers d s t)
    (k : State.LeavesOthers d t u) : State.LeavesOthers d s u := by
  have foreign : ∀ c, (s.ch c).domain ≠ d → (t.ch c).domain ≠ d := fun c f => by rw [h.ch c f]; exact f
  exact ⟨fun c f => (k.ch c (foreign c f)).trans (h.ch c f), fun c f => (k.port c (foreign c f)).trans (h.port c f),
    fun c f => (k.mem c (foreign c f)).trans (h.mem c f), fun c f => (k.storeReq c (foreign c f)).trans (h.storeReq c f),
    fun l f => (k.log l f).trans (h.log l f), k.windows.trans h.windows, k.screen.trans h.screen, k.store.trans h.store⟩

/-- Engine work of a channel that the domain owns, which touches only the domain's log. -/
theorem State.LeavesOthers.of_framed {d : Dom} {c : Chan} {s t : State} (own : (s.ch c).domain = d)
    (f : State.Framed c s t) (log : ∀ l, l ≠ d → t.log l = s.log l) (screen : t.screen = s.screen) :
    State.LeavesOthers d s t := by
  have other : ∀ x, (s.ch x).domain ≠ d → x ≠ c := fun _ foreign same => foreign (same ▸ own)
  exact ⟨fun x h => f.ch x (other x h), fun x h => f.port x (other x h), fun x h => f.mem x (other x h),
    fun x h => f.storeReq x (other x h), log, f.windows, screen, f.store⟩

theorem State.LeavesOthers.of_work {d : Dom} {c : Chan} {s t : State} (own : (s.ch c).domain = d)
    (f : State.Framed c s t) (w : State.Worked c s t) : State.LeavesOthers d s t :=
  .of_framed own f (fun l _ => by unfold State.log; rw [w.logs]) w.screen

theorem State.leavesOthers_modCh {d : Dom} (s : State) (c : Chan) (f : Channel → Channel) (own : (s.ch c).domain = d) :
    State.LeavesOthers d s (s.modCh c f) where
  ch _ foreign := State.ch_modCh_ne s f fun same => foreign (same ▸ own)
  port _ _ := rfl
  mem _ _ := rfl
  storeReq _ _ := rfl
  log _ _ := rfl
  windows := rfl
  screen := rfl
  store := rfl

theorem State.leavesOthers_modLog (s : State) (d : Dom) (f : Log → Log) : State.LeavesOthers d s (s.modLog d f) :=
  ⟨fun _ _ => rfl, fun _ _ => rfl, fun _ _ => rfl, fun _ _ => rfl, fun _ other => State.log_modLog_ne s f other, rfl, rfl, rfl⟩

theorem State.leavesOthers_emit (s : State) (d : Dom) (o : Output) : State.LeavesOthers d s (s.emit o) :=
  ⟨fun _ _ => rfl, fun _ _ => rfl, fun _ _ => rfl, fun _ _ => rfl, fun _ _ => rfl, rfl, rfl, rfl⟩

theorem State.leavesOthers_recordTrap (s : State) (d : Dom) (x : Trap) : State.LeavesOthers d s (s.recordTrap x) := by
  unfold State.recordTrap
  split
  · exact ⟨fun _ _ => rfl, fun _ _ => rfl, fun _ _ => rfl, fun _ _ => rfl, fun _ _ => rfl, rfl, rfl, rfl⟩
  · exact ⟨fun _ _ => rfl, fun _ _ => rfl, fun _ _ => rfl, fun _ _ => rfl, fun _ _ => rfl, rfl, rfl, rfl⟩

/-! ### What follows within the step -/

/-- On a channel on which nothing is left undone no pending change takes effect. -/
theorem Channel.pendingEffects_of_caughtUp {ch : Channel} (h : ch.caughtUp) : ch.domainEffect.detachEffect = ch := by
  have domain : ch.domainEffect = ch := by
    unfold Channel.domainEffect
    split
    next pending => rw [h.2 (by rw [pending]; rfl)]; rfl
    next => rfl
  rw [domain]
  unfold Channel.detachEffect
  refine if_neg fun due => ?_
  simp only [Bool.and_eq_true, Bool.or_eq_true, beq_iff_eq] at due
  exact h.1 due.1 due.2

/-- The arbiter leaves a busy store alone, and a channel that does not wait. -/
theorem State.storeReq_settle (s : State) (c : Chan) (h : s.granted = none → s.storeReq c = none) :
    s.settle.storeReq c = s.storeReq c := by
  have granted : s.grant.storeReq c = s.storeReq c := by
    unfold State.grant
    split
    · rfl
    next free =>
      have host : ∀ n, (s.grantHost n).storeReq c = s.storeReq c := fun n => by unfold State.grantHost; split <;> rfl
      split
      · exact host _
      split
      · exact host _
      unfold State.grantChannel
      split
      · rfl
      split
      · rfl
      next x _ _ _ waits =>
        by_cases same : c = x
        · rw [← same, h free] at waits; cases waits
        · exact State.storeReq_setStoreReq_ne s _ same
  rw [← granted]
  rw [State.settle_eq]
  rfl

/-- What follows a step that leaves the other domains' own alone leaves it alone too, if nothing was left undone before. -/
theorem State.LeavesOthers.settle {d : Dom} {s t : State} (h : State.LeavesOthers d s t) (caught : s.caughtUp)
    (busy : t.granted = none → s.granted = none) : State.LeavesOthers d s t.settle where
  ch c foreign := by
    rw [State.ch_settle, h.ch c foreign]
    exact Channel.pendingEffects_of_caughtUp ⟨caught.detach c, caught.domain c⟩
  port c foreign := by rw [State.port_settle]; exact h.port c foreign
  mem c foreign := by rw [State.mem_settle]; exact h.mem c foreign
  storeReq c foreign := by
    rw [State.storeReq_settle, h.storeReq c foreign]
    intro free
    rw [h.storeReq c foreign]
    exact (caught.store (busy free)).2 c
  log l foreign := by rw [State.log_settle]; exact h.log l foreign
  windows := (State.windows_settle t).trans h.windows
  screen := (State.screen_settle t).trans h.screen
  store := (State.store_settle t).trans h.store

/-! ### A tenant's writes -/

/-- A LOG_POP lets a channel of the log's own domain in. -/
theorem State.leavesOthers_popLog {s : State} (consistent : s.logsConsistent) (d : Dom) :
    State.LeavesOthers d s (s.popLog d) := by
  unfold State.popLog
  split
  · exact .refl d s
  next rest _ =>
    split
    · exact s.leavesOthers_modLog d _
    next c others waiting =>
      split
      · exact s.leavesOthers_modLog d _
      next r _ =>
        have own : (s.ch c).domain = d := ((consistent.waiters d c).mp (by rw [waiting]; exact List.mem_cons_self)).2
        have admitted := ((s.leavesOthers_modLog d fun l => { l with records := rest ++ [r], waiting := others }).trans
          (State.leavesOthers_modCh _ c (fun ch => { ch with held := none }) own))
        have offered := State.offered_afterAccepted
          ((s.modLog d fun l => { l with records := rest ++ [r], waiting := others }).modCh c
            fun ch => { ch with held := none }) c
        have domain : (((s.modLog d fun l => { l with records := rest ++ [r], waiting := others }).modCh c
            fun ch => { ch with held := none }).ch c).domain = d := by
          rw [State.ch_modCh_same, State.ch_modLog]; exact own
        exact admitted.trans (.of_framed domain offered.framed (fun l other => offered.log l (domain ▸ other)) offered.screen)

theorem State.granted_popLog (s : State) (d : Dom) : (s.popLog d).granted = s.granted := by
  unfold State.popLog
  split
  · rfl
  split
  · rfl
  split
  · rfl
  · exact (State.framed_afterAccepted _ _).granted

/-- RESET_CHANNEL takes a channel off the waiting list of its own domain's log alone. -/
theorem State.leavesOthers_resetChan {s : State} {d : Dom} (caught : s.caughtUp) (consistent : s.logsConsistent) (c : Chan)
    (own : (s.ch c).domain = d) : State.LeavesOthers d s (s.resetChan c) := by
  have other : ∀ x, (s.ch x).domain ≠ d → x ≠ c := fun _ foreign same => foreign (same ▸ own)
  rw [State.resetChan_eq]
  refine State.LeavesOthers.settle
    { ch := fun x foreign => State.ch_modCh_ne s Channel.afterReset (other x foreign)
      port := fun x foreign => State.port_modPort_ne s
        (fun p => { p with outstanding := none, timer := .stopped, hailSeen := false, stray := false }) (other x foreign)
      mem := fun x foreign => State.mem_modMem_ne s MemSlot.abandon (other x foreign)
      storeReq := fun x foreign => State.storeReq_setStoreReq_ne s none (other x foreign)
      log := fun l foreign => ?_
      windows := rfl
      screen := rfl
      store := rfl } caught fun free => ?_
  · have absent : c ∉ (s.log l).waiting := fun m => foreign (((consistent.waiters l c).mp m).2.symm.trans own)
    have kept : (s.log l).waiting.filter (· ≠ c) = (s.log l).waiting :=
      List.filter_eq_self.mpr fun x m => decide_eq_true fun same => absent (same ▸ m)
    simp only [State.log, Vector.getElem_map]
    rw [show (s.logs[l.val]).waiting.filter (· ≠ c) = (s.logs[l.val]).waiting from kept]
  · simpa using free

theorem State.Writes.leavesOthers {s t : State} {r : Reg} {v : Word} {d : Dom} (w : s.Writes r v t)
    (tenant : d ≠ 0) (granted : s.grants d r.offset = true) (caught : s.caughtUp) (consistent : s.logsConsistent) :
    State.LeavesOthers d s t := by
  have region : r.supervisorOnly = false := by
    by_contra only
    rw [Bool.not_eq_false] at only
    rw [grants_supervisor s d r only] at granted
    exact tenant (eq_of_beq granted)
  have channel : ∀ {c x}, r = .ch c x → (s.ch c).domain = d := fun {c x} e => by
    rw [e, grants_ch] at granted
    simpa [tenant] using granted
  have window : ∀ {l x}, r = .log l x → d = l := fun {l x} e => by
    rw [e, grants_log] at granted
    simpa [tenant] using granted
  cases w with
  | same => exact .refl d s
  | registers _ _ _ _ _ _ _ only => rw [only] at region; cases region
  | acked | resumedAll | quiesced | hubReset | assigned | sentDirect => cases region
  | setChannel f => exact s.leavesOthers_modCh _ f (channel rfl)
  | violated f x => exact (s.leavesOthers_modCh _ f (channel rfl)).trans (State.leavesOthers_recordTrap _ d x)
  | posted | flushed => exact s.leavesOthers_modCh _ _ (channel rfl)
  | stray => exact .of_work (channel rfl) (s.framed_modPort _ _) (s.worked_modPort _ _ id)
  | threshold => rw [window rfl]; exact s.leavesOthers_modLog _ _
  | popped =>
    obtain rfl := window rfl
    exact .settle (State.leavesOthers_popLog consistent d) caught fun free => (s.granted_popLog d).symm.trans free
  | @stopped c =>
    have own := channel rfl
    have disarmed := s.leavesOthers_modCh c
      (fun ch => { ch with armed := false, stopPending := ch.stopPending || ch.state.stoppable }) own
    have examined := State.framed_reexamine (s.modCh c
      fun ch => { ch with armed := false, stopPending := ch.stopPending || ch.state.stoppable }) c
    have domain : ((s.modCh c fun ch =>
        { ch with armed := false, stopPending := ch.stopPending || ch.state.stoppable }).ch c).domain = d := by
      rw [State.ch_modCh_same]; exact own
    exact .settle ((disarmed.trans (.of_work domain examined (State.worked_reexamine _ c))).trans
      (State.leavesOthers_modCh _ c _ (examined.own_domain.trans domain))) caught
      fun free => examined.granted.symm.trans free
  | @flushedNow c _ _ f _ _ domain =>
    have own := channel rfl
    have offered := State.offered_produceFlushed (s.modCh c f) c
    have same : ((s.modCh c f).ch c).domain = d := by rw [State.ch_modCh_same, domain]; exact own
    exact .settle ((s.leavesOthers_modCh c f own).trans
      (.of_framed same offered.framed (fun l other => offered.log l (same ▸ other)) offered.screen)) caught
      fun free => offered.framed.granted.symm.trans free
  | resumed => exact .settle (s.leavesOthers_modCh _ _ (channel rfl)) caught id
  | resetCh => exact State.leavesOthers_resetChan caught consistent _ (channel rfl)

/-- What a host access of a tenant does. -/
theorem State.Does.leavesOthers {s t : State} {i : Instr} {d : Dom} (does : s.Does i t) (sender : senderOf i = some d)
    (tenant : d ≠ 0) (caught : s.caughtUp) (consistent : s.logsConsistent) : State.LeavesOthers d s t := by
  cases does with
  | same => exact .refl d s
  | written w _ granted =>
    cases (sender_of_writesTo w).symm.trans sender
    exact (s.writes_writeReg ..).leavesOthers tenant granted caught consistent
  | violated x => exact s.leavesOthers_recordTrap d x
  | answered o => exact s.leavesOthers_emit d o
  | refused x o => exact (s.leavesOthers_recordTrap d x).trans (State.leavesOthers_emit _ d o)
  | waits r =>
    exact State.LeavesOthers.settle
      ⟨fun _ _ => rfl, fun _ _ => rfl, fun _ _ => rfl, fun _ _ => rfl, fun _ _ => rfl, rfl, rfl, rfl⟩ caught id
  | level _ _ event | direct _ _ event | atPort _ _ _ event | taken _ _ _ _ event | issued _ _ event
  | accessed _ _ event | warned _ event => rw [event] at sender; cases sender
  | hostStored | stored | ticked | poweredOn | released | initialised | quiesces | broken => cases sender

/-- Settles O60, by what a tenant's access can do. -/
theorem tenantsReachOnlyTheirOwn : Obligations.TenantsReachOnlyTheirOwn := by
  intro s t i d caught consistent sender tenant next
  have kept := (State.does_of_exec next).leavesOthers sender tenant caught consistent
  exact ⟨fun c foreign => ⟨kept.ch c foreign, kept.port c foreign, kept.mem c foreign, kept.storeReq c foreign⟩, kept.log,
    kept.windows, kept.screen, kept.store⟩

end Sys2Proof.Machine
end

section
/-! PROOF. The direct path and the events at a port (O3 to O9). -/

namespace Sys2Proof.Machine

/-! ### Writes that reach their register (R103, R104) -/

theorem exec_write_hub {i : Instr} {r : Reg} {v : Word} (spelled : writeOf i = some (0, r, v)) (s : State)
    (past : s.hubState ≠ .initialising) (only : r.supervisorOnly = true) : exec i s = .next (s.writeReg 0 r v) := by
  rw [exec_of_write spelled, s.hostWrite_hub 0 r _ ⟨past, rfl⟩ only]

theorem exec_write_ch {i : Instr} {d : Dom} {c : Chan} {x : ChReg} {v : Word}
    (spelled : writeOf i = some (d, .ch c x, v)) (s : State) (reaches : s.reachesChannel d c) :
    exec i s = .next (s.writeReg d (.ch c x) v) := by
  rw [exec_of_write spelled, s.hostWrite_ch d c x _ reaches]

theorem exec_write_log {i : Instr} {d l : Dom} {x : LogReg} {v : Word}
    (spelled : writeOf i = some (d, .log l x, v)) (s : State) (reaches : s.reachesLog d l) :
    exec i s = .next (s.writeReg d (.log l x) v) := by
  rw [exec_of_write spelled, s.hostWrite_log d l x _ reaches]

/-! ### Direct commands (R149, R150) -/

/-- Past INITIALISING a direct command of domain 0 meets the checks of R149. -/
theorem exec_direct {i : Instr} {p : Chan} {n : BitVec 3} {last : Bool} {code : CloseCode}
    (spelled : writeOf i = some (0, .dirCommand, directCommandWord p n last code)) (s : State)
    (past : s.hubState ≠ .initialising) : exec i s = .next (s.directCommand p n last code) := by
  rw [exec_write_hub spelled s past rfl]
  exact congrArg _ (s.directWord_spelled p n last code)

/-- The transaction of an accepted direct command is sent on a port in LINK_IDLE. -/
theorem State.acceptDirect_idle (s : State) (p : Chan) (k : Kind) (last : Bool) (code : CloseCode)
    (idle : (s.port p).outstanding = none) :
    s.acceptDirect p k last code =
      { s with
        direct := { s.direct with wordIn := 0, result := .busy, port := p, kind := k.code, overrun := false },
        ports := s.ports.set p.val ((s.port p).sending (s.ch p).answerTimeout .direct k),
        outputs := s.outputs ++ [.transaction p k (s.port p).seq (directPayload k s.direct.wordOut last code)] } := by
  unfold State.acceptDirect
  rw [State.send_idle _ _ _ _ _ (by exact idle)]
  rfl

/-- Settles O3, by the acceptance of each kind. -/
theorem directCommandsAreAccepted : Obligations.DirectCommandsAreAccepted := by
  intro s p last code operational free available idle
  have accepted : ∀ {i : Instr} (k : Kind) (n : BitVec 3) (last : Bool) (code : CloseCode),
      writeOf i = some (0, .dirCommand, directCommandWord p n last code) → kindOfCode n = some k →
      exec i s = .next { s with
        direct := { s.direct with wordIn := 0, result := .busy, port := p, kind := k.code, overrun := false },
        ports := s.ports.set p.val ((s.port p).sending (s.ch p).answerTimeout .direct k),
        outputs := s.outputs ++ [.transaction p k (s.port p).seq (directPayload k s.direct.wordOut last code)] } := by
    intro i k n last code spelled kind
    rw [exec_direct spelled s (by rw [operational]; exact nofun), s.directCommand_accepts p n k last code kind free,
      s.acceptDirect_idle p k last code idle]
    · rw [operational]; exact nofun
    · rintro ⟨attached, notIdle, notHalted⟩
      rcases available with detached | idle | halted
      · rw [attached] at detached; cases detached
      · exact notIdle idle
      · exact notHalted halted
  exact ⟨accepted .lead 1 false .normal rfl rfl, accepted .turn 2 false .normal rfl rfl, accepted .put 3 last .normal rfl rfl,
    accepted .get 4 last .normal rfl rfl, accepted .ask 5 false .normal rfl rfl, accepted .close 6 false code rfl rfl⟩

/-- While the slot is busy a direct command only sets the overrun flag. -/
theorem State.directCommand_busy (s : State) (p : Chan) (n : BitVec 3) (last : Bool) (code : CloseCode)
    (busy : s.direct.result = .busy) : s.directCommand p n last code = { s with direct := { s.direct with overrun := true } } :=
  if_pos busy

theorem State.directCommand_invalid (s : State) (p : Chan) (n : BitVec 3) (last : Bool) (code : CloseCode)
    (free : s.direct.result ≠ .busy) (invalid : kindOfCode n = none) :
    s.directCommand p n last code = s.rejectDirect p n .rejectedKind := by
  unfold State.directCommand
  rw [if_neg free, invalid]

theorem State.directCommand_quiesce (s : State) (p : Chan) (n : BitVec 3) (k : Kind) (last : Bool) (code : CloseCode)
    (free : s.direct.result ≠ .busy) (kind : kindOfCode n = some k)
    (quiesce : s.hubState = .quiescing ∨ s.hubState = .quiesced) :
    s.directCommand p n last code = s.rejectDirect p n .rejectedQuiesce := by
  unfold State.directCommand
  rw [if_neg free, kind]
  exact if_pos quiesce

theorem State.directCommand_occupied (s : State) (p : Chan) (n : BitVec 3) (k : Kind) (last : Bool) (code : CloseCode)
    (free : s.direct.result ≠ .busy) (kind : kindOfCode n = some k) (operational : s.hubState = .operational)
    (attached : (s.ch p).detached = false) (active : ¬ (s.ch p).resting) :
    s.directCommand p n last code = s.rejectDirect p n .rejectedBusy := by
  unfold State.directCommand
  rw [if_neg free, kind]
  dsimp only
  rw [if_neg (by rw [operational]; exact nofun), if_pos ⟨attached, not_or.mp active⟩]

/-- Settles O4, by the first check of R149 that fails. -/
theorem directCommandsTurnedAway : Obligations.DirectCommandsTurnedAway := by
  intro s p past
  have spelled : ∀ last code, ∀ x ∈ ([(.directLead 0 p, 1), (.directTurn 0 p, 2), (.directPut 0 p last, 3),
      (.directGet 0 p last, 4), (.directAsk 0 p, 5), (.directClose 0 p code, 6)] : List (Instr × BitVec 3)),
      (∃ l k, writeOf x.1 = some (0, .dirCommand, directCommandWord p x.2 l k)) ∧ ∃ k, kindOfCode x.2 = some k := by
    intro last code x listed
    simp only [List.mem_cons, List.not_mem_nil, or_false] at listed
    rcases listed with rfl | rfl | rfl | rfl | rfl | rfl <;> exact ⟨⟨_, _, rfl⟩, _, rfl⟩
  refine ⟨fun busy last code k i listed => ?_, fun free => ⟨fun k invalid => ?_, fun last code x listed => ⟨?_, ?_⟩⟩⟩
  · rcases List.mem_cons.mp listed with rfl | listed
    · rw [exec_direct (i := .directInvalidKind 0 p k) rfl s past, s.directCommand_busy _ _ _ _ busy]
    · obtain ⟨x, inList, rfl⟩ := List.mem_map.mp listed
      obtain ⟨⟨l, k, row⟩, -⟩ := spelled last code x inList
      rw [exec_direct row s past, s.directCommand_busy _ _ _ _ busy]
  · rw [exec_direct (i := .directInvalidKind 0 p k) rfl s past,
      s.directCommand_invalid p k _ _ free (by rcases invalid with rfl | rfl <;> rfl)]
    rfl
  · intro quiesce
    obtain ⟨⟨l, c, row⟩, k, kind⟩ := spelled last code x listed
    rw [exec_direct row s past, s.directCommand_quiesce p _ k l c free kind quiesce]
    rfl
  · intro operational attached active
    obtain ⟨⟨l, c, row⟩, k, kind⟩ := spelled last code x listed
    rw [exec_direct row s past, s.directCommand_occupied p _ k l c free kind operational attached active]
    rfl

/-! ### Answers and expiries (R4 to R8, R152) -/

theorem Kind.deliversWord_iff (k : Kind) : k.deliversWord = true ↔ k = .get ∨ k = .ask := by
  cases k <;> simp [Kind.deliversWord]

/-- An answer of the kind and the sequence count matches, but for an ACCEPT without the word that the kind delivers. -/
theorem Transaction.matchedBy_own (t : Transaction) (code : AnswerCode) (o : Option Word)
    (word : code = .accept → t.kind.deliversWord = true → o ≠ none) : t.matchedBy code t.kind.code t.seq o = true := by
  unfold Transaction.matchedBy
  cases code with
  | refuse => simp
  | accept =>
    cases delivers : t.kind.deliversWord with
    | false => simp
    | true =>
      obtain ⟨w, rfl⟩ := Option.ne_none_iff_exists'.mp (word rfl delivers)
      simp

/-- A matching answer to a transaction of the direct path is recorded in the slot. -/
theorem exec_answer_direct (s : State) (p : Chan) (t : Transaction) (code : AnswerCode) (o : Option Word)
    (awake : s.resetAsserted = false) (sent : (s.port p).outstanding = some t) (direct : t.issuer = .direct)
    (word : code = .accept → t.kind.deliversWord = true → o ≠ none) :
    exec (.answer p code t.kind.code t.seq o) s =
      .next ((s.endTransaction p).directResult (t.resultOf code o)).settle := by
  simp only [exec, execAnswer, awake, sent, Bool.false_eq_true, if_false, t.matchedBy_own code o word, if_true,
    State.deliver, direct]

/-- Settles O5, by the result that each answer delivers. -/
theorem directTransactionsEndInTheSlot : Obligations.DirectTransactionsEndInTheSlot := by
  intro s p
  refine ⟨fun t sent direct => ⟨fun awake => ⟨fun w kind => ?_, fun o notGet notAsk => ?_, fun o => ?_⟩, fun due => ?_⟩,
    fun quiet => ?_⟩
  · have delivers := (t.kind.deliversWord_iff).mpr kind
    rw [exec_answer_direct s p t .accept (some w) awake sent direct (fun _ _ => nofun)]
    simp only [Transaction.resultOf, delivers, if_true]
    rfl
  · have delivers : t.kind.deliversWord = false :=
      Bool.eq_false_iff.mpr fun delivers => (t.kind.deliversWord_iff.mp delivers).elim notGet notAsk
    rw [exec_answer_direct s p t .accept o awake sent direct (fun _ h => by rw [delivers] at h; cases h)]
    simp only [Transaction.resultOf, delivers, Bool.false_eq_true, if_false]
    rfl
  · rw [exec_answer_direct s p t .refuse o awake sent direct nofun]
    rfl
  · simp only [exec, execNoAnswer, sent, due, if_true, State.deliver, direct]
    rfl
  · simp only [exec, execNoAnswer]
    rcases quiet with idle | early
    · rw [idle]
    · cases (s.port p).outstanding with
      | none => rfl
      | some t => exact if_neg early

/-- Settles O6, by the match of R4. -/
theorem strayAnswerOnlySetsItsFlag : Obligations.StrayAnswerOnlySetsItsFlag := by
  intro s p code kind seq word awake unmatched
  have stray : exec (.answer p code kind seq word) s = .next (s.strayAnswer p) := by
    simp only [exec, execAnswer, awake, Bool.false_eq_true, if_false]
    rcases unmatched with idle | ⟨t, sent, differs⟩
    · rw [idle]
    · have unmatched : t.matchedBy code kind seq word = false := by
        unfold Transaction.matchedBy
        rcases differs with kind | seq | ⟨rfl, delivers, rfl⟩
        · simp [kind]
        · simp [seq]
        · simp [(t.kind.deliversWord_iff).mpr delivers]
      rw [sent]
      simp only [unmatched, Bool.false_eq_true, if_false]
  exact stray

/-! ### HAIL and READY (R13 to R15, R51 to R54, R143) -/

theorem State.waitsForReady_hail (s : State) (c : Chan) (level seen : Bool) :
    (s.modPort c fun p => { p with hail := level, hailSeen := seen }).waitsForReady c ↔ s.waitsForReady c :=
  s.waitsForReady_modPort c c (fun p => { p with hail := level, hailSeen := seen }) fun _ => rfl

theorem State.waitsForReady_latchChannel (s : State) (c x : Chan) :
    (s.latchChannel c).waitsForReady x ↔ s.waitsForReady x := Iff.rfl

theorem State.waitsForReady_ready (s : State) (c : Chan) (level : Bool) :
    (s.modPort c fun p => { p with ready := level }).waitsForReady c ↔ s.waitsForReady c :=
  s.waitsForReady_modPort c c (fun p => { p with ready := level }) fun _ => rfl

/-- Settles O7, by the level, the hub state and whether the rise is new. -/
theorem hailRisesAreServedOrLatched : Obligations.HailRisesAreServedOrLatched := by
  intro s c
  have seen : ∀ x : Bool, (s.ch c).state ≠ .pacing → ¬ s.waitsForReady c →
      (s.modPort c fun p => { p with hail := true, hailSeen := x }).reexamine c =
        s.modPort c fun p => { p with hail := true, hailSeen := x } := fun x unpaced unwaiting =>
    State.reexamine_other _ c (by rw [State.waitsForReady_hail]; exact unwaiting) unpaced
  have rise : (s.port c).hail = false → s.hubState ≠ .initialising → exec (.hailRise c) s = .next
      (State.settle (State.reexamine
        (if (s.port c).hailSeen then s.modPort c fun p => { p with hail := true, hailSeen := true }
          else (s.modPort c fun p => { p with hail := true, hailSeen := true }).newHail c) c)) := fun low past => by
    simp only [exec, execHailRise, low, past, Bool.false_eq_true, if_false]
  refine ⟨fun high => ?_, fun low => ?_, fun initialising => ⟨fun low => ?_, fun high => ?_⟩,
    fun past => ⟨fun high => ?_, fun low unpaced unwaiting => ⟨fun old => ?_, fun new unserved => ?_⟩⟩,
    fun operational low new idle attached auto free => ?_⟩
  · simp only [exec, execHailRise, high, if_true]
  · simp only [exec, execHailFall, low, if_true]
  · simp only [exec, execHailRise, low, initialising, Bool.false_eq_true, if_false, if_true]
  · simp only [exec, execHailFall, high, initialising, Bool.true_eq_false, if_false, if_true]
  · simp only [exec, execHailFall, high, past, Bool.true_eq_false, if_false]
  · rw [rise low past, if_pos old, seen true unpaced unwaiting]
    refine congrArg (fun x => Host.Outcome.next (State.settle x)) (s.modPort_congr c ?_)
    rw [← old]
  · have latched : (s.modPort c fun p => { p with hail := true, hailSeen := true }).newHail c =
        (s.modPort c fun p => { p with hail := true, hailSeen := true }).latchChannel c := by
      have direct : (s.modPort c fun p => { p with hail := true, hailSeen := true }).directOnPort c = s.directOnPort c := by
        simp [State.directOnPort]
      unfold State.newHail State.servesHail
      refine if_neg ?_
      rw [direct]
      simp only [State.ch_modPort, State.hubState_modPort, Bool.and_eq_true, beq_iff_eq, Bool.not_eq_true']
      rintro ⟨⟨⟨⟨idle, attached⟩, operational⟩, free⟩, auto⟩
      rcases unserved with h | h | h | h | h
      · exact h idle
      · rw [attached] at h; cases h
      · exact h operational
      · rw [free] at h; cases h
      · rw [auto] at h; cases h
    rw [rise low past, new, if_neg Bool.false_ne_true, latched]
    rw [State.reexamine_other _ c _ (by exact unpaced)]
    rw [State.waitsForReady_latchChannel, State.waitsForReady_hail]
    exact unwaiting
  · have served : (s.modPort c fun p => { p with hail := true, hailSeen := true }).servesHail c = true := by
      have direct : (s.modPort c fun p => { p with hail := true, hailSeen := true }).directOnPort c = false := by
        simp [State.directOnPort, free]
      unfold State.servesHail
      simp [idle, attached, operational, direct, auto]
    rw [rise low (by rw [operational]; exact nofun), new, if_neg Bool.false_ne_true]
    unfold State.newHail
    rw [if_pos served]
    unfold State.beginService
    rw [State.send_idle _ _ _ _ _ (by simpa using free), State.reexamine_other]
    · rfl
    · intro waits
      have := waits.1
      simp at this
    · simp

/-- A repetition begins, unless one is under way: REPS saturates and WORDS is 0 (R27, R28, R52). -/
theorem Channel.beginRepetition_eq (ch : Channel) : ch.beginRepetition =
    if ch.run.inRepetition then ch
    else
      { ch with
        reps := if ch.reps = 0xFFFF then 0xFFFF else ch.reps + 1, words := 0,
        run := { ch.run with
          inRepetition := true,
          flags := { ch.run.flags with repsSaturated := ch.run.flags.repsSaturated || ch.reps == 0xFFFF } } } := by
  unfold Channel.beginRepetition
  rw [satInc_16]
  rfl

/-- What the sending of a word makes of the channel (R52, R53). -/
def Channel.sendingWord (ch : Channel) : Channel :=
  { ch.beginRepetition with
    readyTimer := .stopped, run := { ch.beginRepetition.run with outWord := none, portUsed := true } }

theorem State.sendWord_put (s : State) (c : Chan) (out : (s.ch c).run.snapshot.dir = .output)
    (idle : (s.port c).outstanding = none) :
    s.sendWord c = State.sends (s.modCh c Channel.sendingWord) c .put
      (.data ((s.ch c).run.outWord.getD 0) (s.ch c).run.atLast) := by
  unfold State.sendWord
  dsimp only
  rw [if_pos out, State.runSend_idle _ _ _ _ (by simpa using idle), State.modRun_eq, State.modCh_modCh]
  rfl

theorem State.sendWord_get (s : State) (c : Chan) (inward : (s.ch c).run.snapshot.dir ≠ .output)
    (idle : (s.port c).outstanding = none) :
    s.sendWord c = State.sends (s.modCh c Channel.sendingWord) c .get (.mark (s.ch c).run.atLast) := by
  unfold State.sendWord
  dsimp only
  rw [if_neg inward, State.runSend_idle _ _ _ _ (by simpa using idle), State.modRun_eq, State.modCh_modCh]
  rfl

/-- A ready timer that runs goes on (R64). -/
theorem State.waitReady_running (s : State) (c : Chan) (runs : (s.ch c).readyTimer ≠ .stopped) : s.waitReady c = s := by
  unfold State.waitReady
  exact (State.modCh_congr s c (g := fun ch => ch) (if_neg runs)).trans (s.modCh_id c)

/-- A ready timer that is stopped starts (R64). -/
theorem State.waitReady_starts (s : State) (c : Chan) (stopped : (s.ch c).readyTimer = .stopped) :
    s.waitReady c = s.modCh c fun ch =>
      { ch with readyTimer := if ch.readyTimeout = 0 then .unlimited else .running ch.readyTimeout.toNat } := by
  unfold State.waitReady
  simp only [Timer.start_toNat]
  exact State.modCh_congr s c (if_pos stopped)

/-- A change of the partner's level leaves a channel undisturbed, if HAIL stays low. -/
theorem State.undisturbed_modPort {s : State} {c : Chan} (u : s.undisturbed c) (f : Port → Port)
    (hail : (f (s.port c)).hail = (s.port c).hail) : (s.modPort c f).undisturbed c :=
  ⟨u.1, u.2.1, by rw [State.port_modPort_same, hail]; exact u.2.2⟩

/-- In PACING nothing happens while nothing ends it (R56). -/
theorem State.pacingCheck_undisturbed {s : State} {c : Chan} (u : s.undisturbed c) : s.pacingCheck c = s := by
  unfold State.pacingCheck
  rw [State.boundary_go s c _ u.1 u.2.1]
  exact if_neg (by rw [u.2.2]; exact nofun)

/-- Settles O8, by the data decision point. -/
theorem readySendsTheWaitingWord : Obligations.ReadySendsTheWaitingWord := by
  intro s c
  have waiting : ∀ level, s.waitsForReady c → (s.modPort c fun p => { p with ready := level }).waitsForReady c :=
    fun level => (s.waitsForReady_ready c level).mpr
  have undisturbed : ∀ level, s.undisturbed c → (s.modPort c fun p => { p with ready := level }).undisturbed c :=
    fun level u => State.undisturbed_modPort u _ rfl
  refine ⟨fun waits u idle => ⟨fun out => ?_, fun inward => ?_⟩, fun waits u timed => ?_, fun level unwaiting unpaced => ?_⟩
  · simp only [exec, execReadyChange]
    rw [State.reexamine_wait _ c (waiting true waits), State.decide_ready _ c (undisturbed true u) (by simp),
      State.sendWord_put (s.modPort c fun p => { p with ready := true }) c out (by simpa using idle)]
    refine congrArg (fun x => Host.Outcome.next (State.settle (State.sends x c _ _))) (State.modCh_congr _ c ?_)
    rw [Channel.sendingWord, Channel.beginRepetition_eq]
    rfl
  · simp only [exec, execReadyChange]
    rw [State.reexamine_wait _ c (waiting true waits), State.decide_ready _ c (undisturbed true u) (by simp),
      State.sendWord_get (s.modPort c fun p => { p with ready := true }) c inward (by simpa using idle)]
    refine congrArg (fun x => Host.Outcome.next (State.settle (State.sends x c _ _))) (State.modCh_congr _ c ?_)
    rw [Channel.sendingWord, Channel.beginRepetition_eq]
    rfl
  · simp only [exec, execReadyChange]
    rw [State.reexamine_wait _ c (waiting false waits), State.decide_wait _ c (undisturbed false u) (by simp)]
    rw [State.waitReady_running _ c (by exact timed)]
  · simp only [exec, execReadyChange]
    by_cases pacing : (s.ch c).state = .pacing
    · have u := unpaced.resolve_left fun other => other pacing
      rw [State.reexamine_pacing _ c (by exact pacing), State.pacingCheck_undisturbed (undisturbed level u)]
    · rw [State.reexamine_other _ c (by rw [State.waitsForReady_ready]; exact unwaiting) (by exact pacing)]

/-- What HAIL makes of the channel whose data phase it ends, the run closing (R54). -/
def Channel.hailClosing (ch : Channel) : Channel :=
  { ch with
    state := .closing, readyTimer := .stopped, paceTimer := .stopped,
    run := { ch.run with
      outWord := none, outcome := some (if !ch.run.inRepetition && ch.reps != 0 then .done else .doneEarly),
      flags := { ch.run.flags with hailEnd := !ch.run.inRepetition && ch.reps != 0 } } }

/-- HAIL ends the data phase and, with ASK 0, the run closes NORMAL (R54, R57). -/
theorem State.hailEnding_close (s : State) (c : Chan) (used : (s.ch c).run.portUsed = true)
    (idle : (s.port c).outstanding = none) (unasked : (s.ch c).run.snapshot.ask = false) :
    s.hailEnding c = State.sends ((s.modPort c fun p => { p with hailSeen := true }).modCh c Channel.hailClosing) c .close
      (.close .normal) := by
  unfold State.hailEnding State.afterPhases
  simp only [State.modRun_eq, State.modCh_modCh]
  rw [if_neg (by simp [unasked]), State.enterClosing_used _ _ _ (by simpa using used) (by simpa using idle), State.modCh_modCh]
  refine congrArg (fun x => State.sends x c _ _) (State.modCh_congr _ c ?_)
  simp [Channel.hailClosing, atRepetitionBoundary, used]

/-- A waiting or pacing channel that sees HAIL ends its data phase (R51 line 3, R56). -/
theorem State.reexamine_hail (s : State) (c : Chan) (waits : s.waitsForReady c ∨ (s.ch c).state = .pacing)
    (stop : (s.ch c).stopPending = false) (quiesce : s.hubState ≠ .quiescing) (hail : (s.port c).hail = true) :
    s.reexamine c = s.hailEnding c := by
  rcases waits with waits | pacing
  · rw [s.reexamine_wait c waits, s.decide_hail c stop quiesce hail]
  · rw [s.reexamine_pacing c pacing]
    unfold State.pacingCheck
    rw [s.boundary_go c _ stop quiesce]
    exact if_pos hail

/-- Settles O9, by what HAIL makes of a waiting or pacing channel. -/
theorem hailEndsTheDataPhase : Obligations.HailEndsTheDataPhase := by
  intro s c waits u past idle unasked used
  have low : (s.port c).hail = false := u.2.2
  have active : (s.ch c).state ≠ .idle := by
    rcases waits with waits | pacing
    · rw [waits.1]; exact nofun
    · rw [pacing]; exact nofun
  have waits' : (s.modPort c fun p => { p with hail := true, hailSeen := true }).waitsForReady c ∨
      (s.ch c).state = .pacing := waits.imp_left (s.waitsForReady_hail c true true).mpr
  have seen : ((s.modPort c fun p => { p with hail := true, hailSeen := true }).modPort c fun p =>
      { p with hailSeen := true }) = s.modPort c fun p => { p with hail := true, hailSeen := true } := State.modPort_modPort ..
  simp only [exec, execHailRise, low, past, Bool.false_eq_true, if_false]
  cases old : (s.port c).hailSeen with
  | true =>
    simp only [if_true]
    rw [State.reexamine_hail _ c waits' u.1 u.2.1 (by simp),
      State.hailEnding_close (s.modPort c fun p => { p with hail := true, hailSeen := true }) c used (by simpa using idle)
        unasked, seen]
    rfl
  | false =>
    have unserved : (s.modPort c fun p => { p with hail := true, hailSeen := true }).newHail c =
        (s.modPort c fun p => { p with hail := true, hailSeen := true }).latchChannel c := by
      unfold State.newHail State.servesHail
      exact if_neg (by simp [active])
    simp only [Bool.false_eq_true, if_false]
    rw [unserved, State.reexamine_hail ((s.modPort c fun p => { p with hail := true, hailSeen := true }).latchChannel c) c
        waits' u.1 u.2.1 (by simp),
      State.hailEnding_close ((s.modPort c fun p => { p with hail := true, hailSeen := true }).latchChannel c) c used
        (by simpa using idle) unasked]
    refine congrArg (fun x => Host.Outcome.next (State.settle (State.sends x c _ _))) ?_
    exact (congrArg (fun x => State.latchChannel (State.modCh x c Channel.hailClosing) c) seen).trans rfl

end Sys2Proof.Machine
end

section
/-! PROOF. Ticks, the timers of a channel and the taking of runs (O10 to O13). -/

namespace Sys2Proof.Machine

/-! ### Ticks (R171, R172) -/

/-- Settles O10, by the count of each kind of timer. -/
theorem tickCountsEveryTimer : Obligations.TickCountsEveryTimer := by
  refine ⟨fun s awake => ?_, fun s reset => ?_, fun _ => rfl, rfl, rfl, rfl, rfl, fun _ _ _ => rfl, fun _ _ => rfl, rfl,
    fun _ => rfl⟩
  · have period : max 1 s.tickDivider.toNat = if s.tickDivider = 0 then 1 else s.tickDivider.toNat := by
      split
      next zero => rw [zero]; rfl
      next some =>
        have : s.tickDivider.toNat ≠ 0 := fun h => some (BitVec.eq_of_toNat_eq h)
        omega
    simp only [exec, execTick, awake, Bool.false_eq_true, if_false, State.tickAll, period]
  · simp only [exec, execTick, reset, if_true]

/-! ### NOT_READY (R64, R71) -/

/-- A request of a channel changed alike, for the write of the same words. -/
theorem State.requestWrite_congr (s : State) (c : Chan) (sp : Space) (addr : Word) {f g : Channel → Channel}
    {ws ws' : List Word} (channel : f (s.ch c) = g (s.ch c)) (words : ws = ws') :
    (s.modCh c f).request c sp { addr := addr, body := .write ws } =
      (s.modCh c g).request c sp { addr := addr, body := .write ws' } := by
  rw [s.modCh_congr c channel, words]

/-- A fault of a run that no STOP awaits. -/
theorem Channel.faulting_unstopped {ch : Channel} (unstopped : ch.stopPending = false) (o : RunOutcome) (step : RunStep)
    (a : Word) : ch.faulting o step a =
      { ch with
        readyTimer := .stopped, paceTimer := .stopped,
        run := { ch.run with
          outWord := none, outcome := some o, step := step, faultAddr := a,
          flags := { ch.run.flags with halted := true } } } := by
  simp [Channel.faulting, unstopped]

theorem Run.dataStep_eq (r : Run) : r.dataStep = if r.snapshot.dir = .output then .put else .get := by
  simp [Run.dataStep]

/-- Settles O11, by whether the run has used the port. -/
theorem readyTimeoutIsNotReady : Obligations.ReadyTimeoutIsNotReady := by
  intro s c
  refine ⟨fun waits due u low idle => ?_, fun quiet => ?_⟩
  · have aborts : exec (.notReady c) s = .next (s.faultAbort c .notReady (s.ch c).run.dataStep 0).settle := by
      simp only [exec, execNotReady]
      rw [if_pos ⟨waits.1, waits.2, due⟩, if_neg (by simp [State.lineHolds, u.1, u.2.1, u.2.2, low])]
    refine ⟨fun used => ?_, fun unused => ?_⟩
    · rw [aborts, s.faultAbort_used c _ _ _ used idle]
      refine congrArg (fun x => Host.Outcome.next (State.settle (State.sends x c _ _))) (s.modCh_congr c ?_)
      rw [Channel.faulting_unstopped u.1, Run.dataStep_eq]
    · rw [aborts, s.faultAbort_unused c _ _ _ unused, Channel.faulting_unstopped u.1, Run.dataStep_eq]
      refine congrArg (fun x => Host.Outcome.next (State.settle x)) (s.requestWrite_congr c _ _ ?_ rfl)
      rw [Channel.faulting_unstopped u.1]
  · simp only [exec, execNotReady]
    refine if_neg fun ⟨data, wait, due⟩ => ?_
    rcases quiet with unwaiting | early
    · exact unwaiting ⟨data, wait⟩
    · exact early due

/-! ### The pace timer (R56) -/

/-- What a repetition that is made ready makes of the channel (R52). -/
def Channel.repetitionReady (ch : Channel) : Channel :=
  { ch with state := .data, run := { ch.run with position := 0, remaining := ch.run.snapshot.count.toNat } }

/-- An output run reads the first word of the repetition. -/
theorem State.startRepetition_output (s : State) (c : Chan) (out : (s.ch c).run.snapshot.dir = .output) :
    s.startRepetition c = (s.modCh c Channel.repetitionReady).request c (s.ch c).run.snapshot.dataSpace
      { addr := wordAddr (s.ch c).run.bufAddr 0, body := .read 1 } := by
  unfold State.startRepetition State.nextWord
  simp only [State.ch_modCh_same, out, if_true]
  rfl

/-- An input run stands at its data decision point. -/
theorem State.startRepetition_input (s : State) (c : Chan) (inward : (s.ch c).run.snapshot.dir ≠ .output) :
    s.startRepetition c = (s.modCh c Channel.repetitionReady).decide c := by
  unfold State.startRepetition State.nextWord
  simp only [State.ch_modCh_same, inward, if_false]
  rfl

/-- At a data decision point with READY deasserted the channel waits, and its ready timer starts (R51 line 5, R64). -/
theorem State.decide_starts (s : State) (c : Chan) (u : s.undisturbed c) (low : (s.port c).ready = false)
    (stopped : (s.ch c).readyTimer = .stopped) :
    s.decide c = s.modCh c fun ch =>
      { ch with readyTimer := if ch.readyTimeout = 0 then .unlimited else .running ch.readyTimeout.toNat } := by
  rw [s.decide_wait c u low, s.waitReady_starts c stopped]

/-- A change of the channel that leaves the stop-pending mark leaves it undisturbed. -/
theorem State.undisturbed_modCh {s : State} {c : Chan} (u : s.undisturbed c) (f : Channel → Channel)
    (stop : (f (s.ch c)).stopPending = (s.ch c).stopPending) : (s.modCh c f).undisturbed c :=
  ⟨by rw [State.ch_modCh_same, stop]; exact u.1, u.2.1, u.2.2⟩

/-- Settles O12, by the direction of the run. -/
theorem paceExpiryReadiesTheRepetition : Obligations.PaceExpiryReadiesTheRepetition := by
  intro s c
  refine ⟨fun pacing due u => ?_, fun quiet => ?_⟩
  · have starts : exec (.paceExpiry c) s =
        .next ((s.modCh c fun ch => { ch with paceTimer := .stopped }).startRepetition c).settle := by
      simp only [exec, execPaceExpiry]
      rw [if_pos ⟨pacing, due⟩, s.boundary_go c _ u.1 u.2.1, if_neg (by rw [u.2.2]; exact nofun)]
    refine ⟨fun out => ?_, fun inward low stopped => ?_⟩
    · rw [starts, State.startRepetition_output _ c (by simpa using out), State.modCh_modCh, State.ch_modCh_same]
      rfl
    · rw [starts, State.startRepetition_input _ c (by simpa using inward), State.modCh_modCh,
        State.decide_starts _ c (State.undisturbed_modCh u _ rfl) low (by rw [State.ch_modCh_same]; exact stopped),
        State.modCh_modCh]
      rfl
  · simp only [exec, execPaceExpiry]
    exact if_neg fun ⟨pacing, due⟩ => quiet.elim (fun h => h pacing) fun h => h due

/-! ### Taking a run (R43 to R45) -/

/-- The conditions of R43. -/
theorem State.canTake_iff (s : State) (c : Chan) : s.canTake c = true ↔
    (s.ch c).state = .idle ∧ (s.ch c).armed = true ∧ (s.ch c).queue ≠ [] ∧ s.hubState = .operational ∧
      (s.ch c).detached = false ∧ (s.ch c).detachPending = false ∧ s.directOnPort c = false ∧ (s.ch c).flushCount = 0 := by
  simp only [State.canTake, Bool.and_eq_true, beq_iff_eq, Bool.not_eq_true', List.isEmpty_eq_false_iff, ne_eq, and_assoc]

/-- A descriptor within the poster's window is asked for (R45 steps 1 and 2). -/
theorem State.beginLoad_inside (s : State) (c : Chan) (a : Word) (d : Dom) (posted : (s.ch c).current = a)
    (poster : (s.ch c).run.poster = d) (inside : s.rangeOk d (postedSpace a) (postedAddr a) 8 = true) :
    s.beginLoad c =
      (s.modCh c fun ch =>
        { ch with run := { ch.run with descAddr := s.translate d (postedSpace a) (postedAddr a) } }).request c (postedSpace a)
        { addr := s.translate d (postedSpace a) (postedAddr a), body := .read 5 } := by
  unfold State.beginLoad
  simp only [posted, poster]
  rw [if_pos inside, State.modRun_eq]
  exact congrArg (fun x => State.request x c _ _) (s.modCh_congr c (by rw [poster]))

/-- A descriptor outside it ends the run at once (R112). -/
theorem State.beginLoad_outside (s : State) (c : Chan) (a : Word) (d : Dom) (posted : (s.ch c).current = a)
    (poster : (s.ch c).run.poster = d) (outside : s.rangeOk d (postedSpace a) (postedAddr a) 8 = false) :
    s.beginLoad c = (s.recordTrap (loadTrap .descriptorRange d c a 8)).faultUnloaded c .guard a := by
  unfold State.beginLoad
  simp only [posted, poster]
  exact if_neg (by rw [outside]; exact nofun)

/-- A fault in LOADING before the snapshot, offered to a log with room: the record is the tail, and the channel halts with its
event source latched (R75, R81). -/
theorem State.faultUnloaded_room (s : State) (c : Chan) (o : RunOutcome) (a : Word)
    (room : (s.log (s.ch c).domain).records.length < 16) (flushed : (s.ch c).flushCount = 0) :
    s.faultUnloaded c o a =
      State.latchChannel ((s.modLog (s.ch c).domain fun l =>
          { l with records := l.records ++ [((s.ch c).faulting o .load a).runRecord c] }).modCh c fun ch =>
        { ch.faulting o .load a with state := .halted, run := Run.blank, held := none, afterLogging := .halt }) c := by
  unfold State.faultUnloaded State.logRun
  rw [State.setFault_eq, State.logRecord_room _ c _ (by simpa [Channel.faulting] using room)
    (by simpa [Channel.faulting] using flushed)]
  simp only [State.ch_modCh_same, State.modLog_modCh, State.modCh_modCh]
  rfl

/-- Settles O13, by the range of the descriptor. -/
theorem takingARunChecksItsDescriptor : Obligations.TakingARunChecksItsDescriptor := by
  intro s c
  refine ⟨fun e rest queue idle armed operational attached undetaching free flushed => ?_, fun fails => ?_⟩
  · have takes : exec (.takeRun c) s = .next ((s.modCh c fun ch => ch.take e rest).beginLoad c).settle := by
      simp only [exec, execTakeRun, queue]
      exact if_pos ((s.canTake_iff c).mpr
        ⟨idle, armed, by rw [queue]; exact List.cons_ne_nil _ _, operational, attached, undetaching, free, flushed⟩)
    have taken : (s.modCh c fun ch => ch.take e rest).ch c = (s.ch c).take e rest := s.ch_modCh_same c _
    refine ⟨fun inside => ?_, fun outside unstopped room => ?_⟩
    · rw [takes, State.beginLoad_inside _ c e.posted e.poster (by rw [taken]; rfl) (by rw [taken]; rfl) (by exact inside),
        State.modCh_modCh]
      rfl
    · rw [takes, State.beginLoad_outside _ c e.posted e.poster (by rw [taken]; rfl) (by rw [taken]; rfl) (by exact outside)]
      rw [State.recordTrap_modCh, State.faultUnloaded_room _ c _ _ (by
        rw [State.ch_modCh_same, State.log_modCh, State.log_recordTrap, State.ch_recordTrap]; exact room) (by
        rw [State.ch_modCh_same, State.ch_recordTrap]; exact flushed)]
      simp only [State.modLog_modCh, State.modCh_modCh, State.ch_modCh_same, State.ch_recordTrap]
      have record : (((s.ch c).take e rest).faulting .guard .load e.posted).runRecord c =
          { outcome := .guard, flags := { Flags.clear with halted := true }, channel := c, screenIndex := 0, step := .load,
            reps := 0, tag := 0, words := 0, leadsDone := 0, refusals := 0, status := 0, faultAddr := e.posted,
            descriptor := e.posted } := by
        rw [Channel.faulting_unstopped (by exact unstopped)]
        simp [Channel.runRecord, Channel.take, Run.blank, Run.word7, Flags.clear, Snapshot.tag]
      rw [record]
      refine congrArg (fun x => Host.Outcome.next (State.settle (State.latchChannel x c))) (State.modCh_congr _ c ?_)
      simp [Channel.faulting, Channel.take, unstopped]
  · simp only [exec, execTakeRun]
    refine if_neg fun can => ?_
    obtain ⟨idle, armed, queued, operational, attached, undetaching, free, flushed⟩ := (s.canTake_iff c).mp can
    rcases fails with h | h | h | h | h | h | h | h
    · exact queued h
    · exact h idle
    · rw [armed] at h; cases h
    · exact h operational
    · rw [attached] at h; cases h
    · rw [undetaching] at h; cases h
    · rw [free] at h; cases h
    · exact h flushed

end Sys2Proof.Machine
end

section
/-! PROOF. What follows within a step, the memory port and the staging store (O14 to O21). -/

namespace Sys2Proof.Machine

/-! ### What follows within a step (R120, R125, R132, R155, R180) -/

theorem State.channelWaits_iff (s : State) : s.channelWaits = true ↔ ∃ c, s.storeReq c ≠ none := by
  unfold State.channelWaits
  rw [allChans_any]
  exact exists_congr fun c => by rw [Option.isSome_iff_ne_none]

/-- Settles O20, by the rows of the table of R132. -/
theorem arbiterGrantsByItsTable : Obligations.ArbiterGrantsByItsTable := by
  intro s
  refine ⟨fun g busy => ?_, fun free => ⟨fun noHost noChannel => ?_, fun r rest host => ⟨fun alone => ?_, fun waits run => ?_⟩,
    fun c a waits first turn => ?_⟩⟩
  · unfold State.grant
    rw [busy]
  · unfold State.grant State.grantChannel
    have nobody : (nextAfter s.lastGranted fun c => (s.storeReq c).isSome) = none :=
      (nextAfter_eq_none _ _).mpr fun c => by rw [noChannel c]; rfl
    simp only [free, noHost, ne_eq, not_true_eq_false, false_and, if_false, nobody]
  · have unwaited : s.channelWaits = false :=
      Bool.eq_false_iff.mpr fun w => (s.channelWaits_iff.mp w).elim fun c some => some (alone c)
    unfold State.grant State.grantHost
    simp only [free, host, ne_eq, reduceCtorEq, not_false_eq_true, unwaited, and_self, if_true]
  · have waited : s.channelWaits = true := s.channelWaits_iff.mpr waits
    unfold State.grant State.grantHost
    simp only [free, host, ne_eq, reduceCtorEq, not_false_eq_true, waited, Bool.true_eq_false, and_false, if_false, run,
      and_self, if_true]
  · have waited : s.channelWaits = true := s.channelWaits_iff.mpr ⟨c, by rw [waits]; exact nofun⟩
    have next : (nextAfter s.lastGranted fun c => (s.storeReq c).isSome) = some c :=
      (nextAfter_eq_some _ _ c).mpr ⟨by rw [waits]; rfl, fun x some => first x (Option.isSome_iff_ne_none.mp some)⟩
    have notHost : ¬ (s.hostWaiting ≠ [] ∧ s.hostRun < 2) := fun ⟨host, run⟩ => by
      rcases turn with none | two
      · exact host none
      · rw [two] at run; exact absurd run (by decide)
    unfold State.grant State.grantChannel
    simp only [free, waited, Bool.true_eq_false, and_false, if_false, notHost, next, waits]
    rfl

/-- Settles O21, by what each part of `State.settle` does. -/
theorem settleDoesWhatIsDue : Obligations.SettleDoesWhatIsDue := by
  intro s
  have presented : s.settle.presented = s.present.presented := by rw [State.settle_eq]
  refine ⟨fun c => ?_, fun c shown requested => ?_, fun c unshown => ?_, ?_, ?_⟩
  · rw [State.ch_settle, Channel.pendingEffects_eq]
  · rw [presented]
    unfold State.present
    simp only [shown, requested, if_true]
  · rw [presented]
    have next : s.present.presented = nextAfter s.servicePointer fun c => (s.mem c).isRequested := by
      unfold State.present
      rcases unshown with none | ⟨x, shown, gone⟩
      · simp only [none]
      · simp only [shown, gone, Bool.false_eq_true, if_false]
    rw [next]
    exact nextAfter_eq_some _ _ c
  · rw [State.settle_eq]
    simp only [State.atRest_iff]
  · dsimp only
    rw [State.settle_eq]

/-! ### The memory port (R84, R124 to R128) -/

/-- Settles O14, by the state of the slot. -/
theorem accessesAreIssuedAndDiscarded : Obligations.AccessesAreIssuedAndDiscarded := by
  refine ⟨fun s => ⟨fun c a shown requested => ?_, fun none => ?_⟩, fun s c n r => ?_⟩
  · simp only [exec, execMemoryIssue, shown, requested, State.issue, Timer.start_toNat]
    rfl
  · simp only [exec, execMemoryIssue, none]
  have freed : s.modMem c MemSlot.free = s.modMem c fun m =>
      { m with slot := match m.need with | none => .empty | some a => .requested a, need := none } := by
    refine congrArg (s.modMem c) (funext fun m => ?_)
    rcases m with ⟨slot, _ | need, number⟩ <;> rfl
  refine ⟨fun unissued => ?_, fun a k t outstanding => ⟨fun other => ?_, fun early => ?_⟩,
    fun k t abandoned => ⟨fun other => ?_, fun early => ?_, fun same => ?_, fun due => ?_⟩⟩
  · rcases unissued with empty | ⟨a, requested⟩
    · simp only [exec, execMemoryResponse, execMemoryTimeout, empty, and_self]
    · simp only [exec, execMemoryResponse, execMemoryTimeout, requested, and_self]
  · simp only [exec, execMemoryResponse, outstanding, other, if_false]
  · simp only [exec, execMemoryTimeout, outstanding]
    cases t with
    | due => exact absurd rfl early
    | stopped | unlimited | running => rfl
  · simp only [exec, execMemoryResponse, abandoned, other, if_false]
  · simp only [exec, execMemoryTimeout, abandoned]
    cases t with
    | due => exact absurd rfl early
    | stopped | unlimited | running => rfl
  · simp only [exec, execMemoryResponse, abandoned, same, if_true]
    exact congrArg (fun u => Host.Outcome.next (State.settle u)) freed
  · simp only [exec, execMemoryTimeout, abandoned, due]
    exact congrArg (fun u => Host.Outcome.next (State.settle u)) freed

/-! ### The staging store (R129, R134) -/

theorem StoreWord.agrees_iff (x : StoreWord) : x.agrees = true ↔ x.check = oddBits x.data := by
  unfold StoreWord.agrees
  exact beq_iff_eq

/-- Settles O16, by the host's access. -/
theorem hostStoreAccessCompletes : Obligations.HostStoreAccessCompletes := by
  intro s d w
  refine ⟨fun v granted => ?_, fun granted => ⟨fun agrees => ?_, fun differs => ?_⟩, fun free => ?_⟩
  · simp only [exec, execStoreAccessDone, granted, State.hostAccessDone]
    rfl
  · simp only [exec, execStoreAccessDone, granted, State.hostAccessDone, (StoreWord.agrees_iff _).mpr agrees, if_true]
    rfl
  · have breaks : (s.store.get w.toNat).agrees = false :=
      Bool.eq_false_iff.mpr fun agrees => differs ((StoreWord.agrees_iff _).mp agrees)
    simp only [exec, execStoreAccessDone, granted, State.hostAccessDone, breaks, Bool.false_eq_true, if_false]
    rfl
  · simp only [exec, execStoreAccessDone, free]

/-- Settles O18, by the checks in their order. -/
theorem apertureAccessesAreDecidedOnArrival : Obligations.ApertureAccessesAreDecidedOnArrival := by
  intro s d size off v x listed
  have does : exec x.1 s = .next (s.apertureAccess d size off x.2) := by
    simp only [List.mem_cons, List.not_mem_nil, or_false] at listed
    rcases listed with rfl | rfl <;> rfl
  have acted : apertureActedOn size off = true ↔ size = .word ∧ off.toNat % 4 = 0 := by
    simp [apertureActedOn]
  rw [does]
  refine ⟨fun refused => ?_, fun word aligned past => ⟨fun outside => ?_, fun inside => ?_⟩⟩
  · unfold State.apertureAccess
    dsimp only
    split
    · rfl
    next served =>
      obtain ⟨word, aligned⟩ := acted.mp (by simpa using served)
      rw [if_pos ((refused.resolve_left fun h => h word).resolve_left fun h => h aligned)]
      rfl
  · unfold State.apertureAccess
    dsimp only
    rw [if_neg (by simp [acted.mpr ⟨word, aligned⟩]), if_neg past, if_pos outside]
    rfl
  · unfold State.apertureAccess
    dsimp only
    rw [if_neg (by simp [acted.mpr ⟨word, aligned⟩]), if_neg past, if_neg (by rw [inside]; exact nofun)]
    rfl

/-- Settles O19, by a read after a write of the store. -/
theorem storageFailureBreaksOneWord : Obligations.StorageFailureBreaksOneWord := by
  intro s w v canonical
  have broken : (s.store.put w.toNat (StoreWord.disagreeing v)).get w.toNat = StoreWord.disagreeing v := by
    rw [Store.get_put _ _ _ canonical, if_pos rfl]
  refine ⟨_, rfl, Store.wf_put _ _ _ canonical w.isLt, ?_, ?_, fun x other => ?_⟩
  · rw [broken]; rfl
  · rw [broken]; simp [StoreWord.agrees, StoreWord.disagreeing]
  · rw [Store.get_put _ _ _ canonical, if_neg other]

end Sys2Proof.Machine
end

section
/-! PROOF. The completion of a channel's accesses: failed ones (O15) and those to the staging store (O17). -/

namespace Sys2Proof.Machine

/-! ### What a completed access hands to the channel (R127, R129, R133) -/

/-- A slot with no request waiting for it becomes EMPTY. -/
theorem State.modMem_free (s : State) (c : Chan) (needless : (s.mem c).need = none) :
    s.modMem c MemSlot.free = s.modMem c fun m => { m with slot := .empty } := by
  refine s.modMem_congr c ?_
  unfold MemSlot.free
  rw [needless]

/-- A wanted read of the store completes: its words reach the channel, or the failure does. -/
theorem exec_storeRead (s : State) (c : Chan) (a : Access) (n : Nat) (granted : s.granted = some (.channel c a true))
    (read : a.body = .read n) :
    exec .storeAccessDone s = .next (State.accessResult { s with granted := none } c (a.storeResult s.store)).settle := by
  rw [exec_storeAccessDone_channel s c a true granted]
  unfold State.storeChannelDone Access.storeEffect
  simp only [read, if_true]

/-- A wanted write to the store completes. -/
theorem exec_storeWrite (s : State) (c : Chan) (a : Access) (ws : List Word)
    (granted : s.granted = some (.channel c a true)) (write : a.body = .write ws) :
    exec .storeAccessDone s =
      .next (State.accessResult { s with granted := none, store := s.store.writeWords a.addr ws } c (.ok [])).settle := by
  rw [exec_storeAccessDone_channel s c a true granted]
  unfold State.storeChannelDone Access.storeEffect Access.storeResult
  simp only [write, if_true]

theorem Access.storeResult_ok (a : Access) (m : Store) (n : Nat) (read : a.body = .read n)
    (agree : ∀ i < n, (m.get (storeIndex (a.addr + BitVec.ofNat 32 (4 * i)))).check =
      oddBits (m.get (storeIndex (a.addr + BitVec.ofNat 32 (4 * i)))).data) :
    a.storeResult m = .ok ((List.range n).map fun i => (m.get (storeIndex (a.addr + BitVec.ofNat 32 (4 * i)))).data) := by
  have whole : (m.readWords a.addr n).all StoreWord.agrees = true := by
    simp only [Store.readWords, List.all_map, List.all_eq_true, List.mem_range, Function.comp_apply, StoreWord.agrees_iff]
    exact agree
  unfold Access.storeResult
  simp only [read]
  rw [if_pos whole, Store.readWords, List.map_map]
  rfl

theorem Access.storeResult_failed (a : Access) (m : Store) (n : Nat) (read : a.body = .read n)
    (breaks : ∃ i < n, (m.get (storeIndex (a.addr + BitVec.ofNat 32 (4 * i)))).check ≠
      oddBits (m.get (storeIndex (a.addr + BitVec.ofNat 32 (4 * i)))).data) : a.storeResult m = .failed .storeParity := by
  have whole : (m.readWords a.addr n).all StoreWord.agrees = false := by
    obtain ⟨i, inside, differs⟩ := breaks
    simp only [Store.readWords, List.all_map, List.all_eq_false, List.mem_range, Function.comp_apply, StoreWord.agrees_iff]
    exact ⟨i, inside, differs⟩
  unfold Access.storeResult
  simp only [read, whole, Bool.false_eq_true, if_false]

/-- A response with ERROR in a word that the access covers fails it whole. -/
theorem Access.memoryResult_failed (a : Access) (r : MemResponse) (n : Nat)
    (covers : a.body = .read n ∨ (n = 1 ∧ ∃ ws, a.body = .write ws)) (error : ∃ i < n, r.error.getLsbD i = true) :
    a.memoryResult r = .failed .memoryError := by
  obtain ⟨i, inside, bit⟩ := error
  unfold Access.memoryResult
  rcases covers with read | ⟨rfl, ws, write⟩
  · have some : ((List.range n).any fun i => r.error.getLsbD i) = true :=
      List.any_eq_true.mpr ⟨i, List.mem_range.mpr inside, bit⟩
    simp only [read, some, if_true]
  · obtain rfl : i = 0 := by omega
    simp only [write, bit, if_true]

/-! ### Failures (R71 to R75) -/

/-- The three ways in which an access of a channel fails. -/
theorem exec_failedAccess (s : State) (c : Chan) (a : Access) (words : Nat) (needless : (s.mem c).need = none)
    (covers : a.body = .read words ∨ (words = 1 ∧ ∃ ws, a.body = .write ws)) (ended : RunOutcome → State → State)
    (faults : ∀ o (u : State), u.channels = s.channels → u.ports = s.ports → u.logs = s.logs →
      u.accessResult c (.failed o) = ended o u) :
    (∀ n t r, (s.mem c).slot = .outstanding a n t → (∃ i < words, r.error.getLsbD i = true) →
      exec (.memoryResponse c n r) s = .next (ended .memoryError (s.modMem c fun m => { m with slot := .empty })).settle) ∧
    (∀ n, (s.mem c).slot = .outstanding a n .due →
      exec (.memoryTimeout c) s = .next (ended .memoryTimeout (s.modMem c fun m => { m with slot := .empty })).settle) ∧
    (a.body = .read words → s.granted = some (.channel c a true) →
      (∃ i < words, (s.store.get (storeIndex (a.addr + BitVec.ofNat 32 (4 * i)))).check ≠
        oddBits (s.store.get (storeIndex (a.addr + BitVec.ofNat 32 (4 * i)))).data) →
      exec .storeAccessDone s = .next (ended .storeParity { s with granted := none }).settle) := by
  refine ⟨fun n t r outstanding error => ?_, fun n outstanding => ?_, fun read granted breaks => ?_⟩
  · simp only [exec, execMemoryResponse, outstanding, if_true, a.memoryResult_failed r words covers error,
      s.modMem_free c needless]
    exact congrArg (fun u => Host.Outcome.next (State.settle u)) (faults _ _ rfl rfl rfl)
  · simp only [exec, execMemoryTimeout, outstanding, s.modMem_free c needless]
    exact congrArg (fun u => Host.Outcome.next (State.settle u)) (faults _ _ rfl rfl rfl)
  · rw [exec_storeRead s c a words granted read, a.storeResult_failed _ words read breaks]
    exact congrArg (fun u => Host.Outcome.next (State.settle u)) (faults _ _ rfl rfl rfl)

theorem State.ch_of_channels {s u : State} (h : u.channels = s.channels) (c : Chan) : u.ch c = s.ch c := by
  unfold State.ch; rw [h]

theorem State.port_of_ports {s u : State} (h : u.ports = s.ports) (c : Chan) : u.port c = s.port c := by
  unfold State.port; rw [h]

theorem State.log_of_logs {s u : State} (h : u.logs = s.logs) (d : Dom) : u.log d = s.log d := by
  unfold State.log; rw [h]

/-- In LEAD and DATA a failed access is a fault at the word that the run is at (R72). -/
theorem State.accessResult_failed (s : State) (c : Chan) (o : RunOutcome)
    (phase : (s.ch c).state = .lead ∨ (s.ch c).state = .data) :
    s.accessResult c (.failed o) = s.faultAbort c o
      (if (s.ch c).state = .lead then .lead else (s.ch c).run.dataStep)
      (if (s.ch c).state = .lead then (s.ch c).run.leadFaultAddr else (s.ch c).run.bufferFaultAddr) := by
  unfold State.accessResult
  rcases phase with lead | data
  · simp only [lead, if_true]
  · simp only [data, reduceCtorEq, if_false]

/-- Settles O15, by the step at which the access fails. -/
theorem failedAccessFaultsTheRun : Obligations.FailedAccessFaultsTheRun := by
  intro s c a needless freed word fails
  have failing : ∀ words ended, (a.body = .read words ∨ (words = 1 ∧ ∃ ws, a.body = .write ws)) →
      (∀ o (u : State), u.channels = s.channels → u.ports = s.ports → u.logs = s.logs →
        u.accessResult c (.failed o) = ended o u) → fails words ended := fun words ended covers faults =>
    exec_failedAccess s c a words needless covers ended faults
  clear_value fails
  refine ⟨fun phase body idle => ⟨fun used => ?_, fun unused => ?_⟩,
    fun poster addr loading read run reps words flushed room => ?_⟩
  · refine failing 1 _ (body.imp_right fun ⟨v, w⟩ => ⟨rfl, _, w⟩) fun o u channels ports _ => ?_
    have same := State.ch_of_channels channels c
    rw [u.accessResult_failed c o (by rw [same]; exact phase),
      u.faultAbort_used c _ _ _ (by rw [same]; exact used) (by rw [State.port_of_ports ports]; exact idle)]
    refine congrArg (fun x => State.sends x c _ _) (u.modCh_congr c ?_)
    rw [same, Run.dataStep_eq]
    rfl
  · refine failing 1 _ (body.imp_right fun ⟨v, w⟩ => ⟨rfl, _, w⟩) fun o u channels ports _ => ?_
    have same := State.ch_of_channels channels c
    rw [u.accessResult_failed c o (by rw [same]; exact phase),
      u.faultAbort_unused c _ _ _ (by rw [same]; exact unused), same]
    refine u.requestWrite_congr c _ _ ?_ ?_
    · rw [same, Run.dataStep_eq]
      rfl
    · rw [Run.dataStep_eq]
      rfl
  · refine failing 5 _ (.inl read) fun o u channels _ logs => ?_
    have same := State.ch_of_channels channels c
    have faults : u.accessResult c (.failed o) = u.faultUnloaded c o (s.ch c).current := by
      unfold State.accessResult
      simp only [same, loading]
    have record : ((s.ch c).faulting o .load (s.ch c).current).runRecord c =
        { outcome := o, flags := { Flags.clear with halted := true, stopAlso := (s.ch c).stopPending }, channel := c,
          screenIndex := 0, step := .load, reps := 0, tag := 0, words := 0, leadsDone := 0, refusals := 0, status := 0,
          faultAddr := (s.ch c).current, descriptor := (s.ch c).current } := by
      simp [Channel.runRecord, Channel.faulting, run, reps, words, Run.blank, Run.word7, Flags.clear, Snapshot.tag]
    rw [faults, u.faultUnloaded_room c o _ (by rw [same, State.log_of_logs logs]; exact room) (by rw [same]; exact flushed),
      same, record]
    rfl

/-! ### Accesses that succeed (R45, R48, R52, R53, R60) -/

section
variable (s : State) (c : Chan) (ws : List Word)

theorem State.accessResult_lead (lead : (s.ch c).state = .lead) :
    s.accessResult c (.ok ws) = s.boundary c fun s => s.runSend c .lead (.word (ws.getD 0 0)) := by
  unfold State.accessResult; simp only [lead]

theorem State.accessResult_output (data : (s.ch c).state = .data) (out : (s.ch c).run.snapshot.dir = .output) :
    s.accessResult c (.ok ws) =
      (s.modCh c fun ch => { ch with run := { ch.run with outWord := some (ws.getD 0 0) } }).decide c := by
  unfold State.accessResult; simp only [data, out, if_true]; rfl

theorem State.accessResult_input (data : (s.ch c).state = .data) (inward : (s.ch c).run.snapshot.dir ≠ .output) :
    s.accessResult c (.ok ws) = s.wordDone c true := by
  unfold State.accessResult; simp only [data, inward, if_false]

theorem State.accessResult_loading (loading : (s.ch c).state = .loading) :
    s.accessResult c (.ok ws) = s.descriptorRead c ws := by
  unfold State.accessResult; simp only [loading]

theorem State.accessResult_writeback (writeback : (s.ch c).state = .writeback) :
    s.accessResult c (.ok ws) = s.logRecord c ((s.ch c).runRecord c) := by
  unfold State.accessResult; simp only [writeback]; rfl

end

theorem Store.writeWords_one (m : Store) (a v : Word) : m.writeWords a [v] =
    m.put (storeIndex (a + BitVec.ofNat 32 (4 * 0))) { data := v, check := oddBits v } := by
  have start : a + BitVec.ofNat 32 (4 * 0) = a := by simp
  rw [start]
  rfl

theorem Store.writeWords_three (m : Store) (a v0 v1 v2 : Word) : m.writeWords a [v0, v1, v2] =
    ((m.put (storeIndex (a + BitVec.ofNat 32 (4 * 0))) { data := v0, check := oddBits v0 }).put
      (storeIndex (a + BitVec.ofNat 32 (4 * 1))) { data := v1, check := oddBits v1 }).put
      (storeIndex (a + BitVec.ofNat 32 (4 * 2))) { data := v2, check := oddBits v2 } := by
  have start : a + BitVec.ofNat 32 (4 * 0) = a := by simp
  have third : a + BitVec.ofNat 32 (4 * 2) = a + 4 + 4 := by rw [BitVec.add_assoc]; rfl
  rw [start, third]
  rfl

/-- What dealing with a word makes of the channel (R52). -/
def Channel.counted (completed : Bool) (ch : Channel) : Channel :=
  { ch with
    words := if completed then ch.words + 1 else ch.words,
    run := { ch.run with position := ch.run.position + 1, remaining := ch.run.remaining - 1 } }

/-- With words still to come, the channel comes to the next. -/
theorem State.wordDone_more (s : State) (c : Chan) (completed : Bool) (more : 1 < (s.ch c).run.remaining)
    (stop : (s.ch c).stopPending = false) (quiesce : s.hubState ≠ .quiescing) :
    s.wordDone c completed = (s.modCh c (Channel.counted completed)).nextWord c := by
  have left : ¬ ((s.modCh c (Channel.counted completed)).ch c).run.remaining = 0 := by
    rw [State.ch_modCh_same]
    exact (show ¬ (s.ch c).run.remaining - 1 = 0 by omega)
  have goes : (s.modCh c (Channel.counted completed)).boundary c (fun s => s.nextWord c) =
      (s.modCh c (Channel.counted completed)).nextWord c :=
    State.boundary_go _ c _ (by rw [State.ch_modCh_same]; exact stop) quiesce
  rw [← goes]
  exact if_neg left

/-- After the last word the repetition is complete. -/
theorem State.wordDone_last (s : State) (c : Chan) (completed : Bool) (last : (s.ch c).run.remaining = 1) :
    s.wordDone c completed = (s.modCh c (Channel.counted completed)).repetitionDone c := by
  have done : ((s.modCh c (Channel.counted completed)).ch c).run.remaining = 0 := by
    rw [State.ch_modCh_same]
    exact (show (s.ch c).run.remaining - 1 = 0 by omega)
  exact if_pos done

theorem State.nextWord_output (s : State) (c : Chan) (out : (s.ch c).run.snapshot.dir = .output) :
    s.nextWord c = s.request c (s.ch c).run.snapshot.dataSpace
      { addr := wordAddr (s.ch c).run.bufAddr (s.ch c).run.position, body := .read 1 } := if_pos out

theorem State.nextWord_input (s : State) (c : Chan) (inward : (s.ch c).run.snapshot.dir ≠ .output) :
    s.nextWord c = s.decide c := if_neg inward

/-- A descriptor with lead words has the first of them read (R48). -/
theorem State.leaveLoading_lead (s : State) (c : Chan) (leads : (s.ch c).run.snapshot.leads ≠ 0)
    (first : (s.ch c).run.leadsDone = 0) :
    s.leaveLoading c = (s.modCh c fun ch => { ch with state := .lead }).request c (s.ch c).run.snapshot.leadSpace
      { addr := wordAddr (s.ch c).run.leadAddr 0, body := .read 1 } := by
  unfold State.leaveLoading State.fetchLead
  rw [if_neg leads]
  simp only [State.ch_modCh_same, first]
  rfl

/-- Settles O17, by the state of the channel. -/
theorem channelStoreAccessCompletes : Obligations.ChannelStoreAccessCompletes := by
  intro s c a
  refine ⟨fun granted => ⟨fun n read => ?_, fun v write => ?_, fun v0 v1 v2 write => ?_⟩,
    fun granted read lead stop quiesce idle agrees => ?_,
    fun granted read data out u idle agrees => ⟨fun low stopped => ?_, fun ready begun => ?_⟩,
    fun v granted write data inward u low stopped more => ?_,
    fun granted read loading stop quiesce agrees format leads first listOk bufferOk => ?_,
    fun v0 v1 v2 granted write writeback flushed room => ?_⟩
  · rw [exec_storeAccessDone_channel s c a false granted]
    simp only [State.storeChannelDone, Access.storeEffect, read, Bool.false_eq_true, if_false]
  · rw [exec_storeAccessDone_channel s c a false granted]
    simp only [State.storeChannelDone, Access.storeEffect, write, Bool.false_eq_true, if_false, Store.writeWords_one]
  · rw [exec_storeAccessDone_channel s c a false granted]
    simp only [State.storeChannelDone, Access.storeEffect, write, Bool.false_eq_true, if_false, Store.writeWords_three]
  · rw [exec_storeRead s c a 1 granted read, a.storeResult_ok _ 1 read fun i h => by
      obtain rfl : i = 0 := by omega
      exact agrees]
    rw [State.accessResult_lead _ c _ (by exact lead), State.boundary_go _ c _ (by exact stop) (by exact quiesce),
      State.runSend_idle _ _ _ _ (by exact idle)]
    rfl
  · rw [exec_storeRead s c a 1 granted read, a.storeResult_ok _ 1 read fun i h => by
      obtain rfl : i = 0 := by omega
      exact agrees]
    have u' : State.undisturbed { s with granted := none } c := u
    rw [State.accessResult_output _ c _ (by exact data) (by exact out),
      State.decide_starts _ c (State.undisturbed_modCh u' _ rfl) (by exact low)
        (by rw [State.ch_modCh_same]; exact stopped), State.modCh_modCh]
    rfl
  · rw [exec_storeRead s c a 1 granted read, a.storeResult_ok _ 1 read fun i h => by
      obtain rfl : i = 0 := by omega
      exact agrees]
    have u' : State.undisturbed { s with granted := none } c := u
    rw [State.accessResult_output _ c _ (by exact data) (by exact out),
      State.decide_ready _ c (State.undisturbed_modCh u' _ rfl) (by exact ready),
      State.sendWord_put _ c (by rw [State.ch_modCh_same]; exact out) (by exact idle), State.modCh_modCh, State.ch_modCh_same]
    refine congrArg (fun x => Host.Outcome.next (State.settle (State.sends x c _ _))) (State.modCh_congr _ c ?_)
    have begun' : (State.ch { s with granted := none } c).run.inRepetition = true := begun
    simp [Channel.sendingWord, Channel.beginRepetition, begun']
  · rw [exec_storeWrite s c a [v] granted write, Store.writeWords_one]
    have notOut : (s.ch c).run.snapshot.dir ≠ .output := by rw [inward]; exact nofun
    rw [State.accessResult_input _ c _ (by exact data) (by exact notOut),
      State.wordDone_more _ c _ (by exact more) (by exact u.1) (by exact u.2.1),
      State.nextWord_input _ c (by rw [State.ch_modCh_same]; exact notOut),
      State.decide_starts _ c (by exact State.undisturbed_modCh u _ rfl) (by exact low)
        (by rw [State.ch_modCh_same]; exact stopped), State.modCh_modCh]
    rfl
  · rw [exec_storeRead s c a 5 granted read, a.storeResult_ok _ 5 read agrees, State.accessResult_loading _ c _ (by exact loading),
      State.descriptorRead_good _ c _ _ rfl (by exact format) (fun _ => by exact listOk) (by exact bufferOk),
      State.boundary_go _ c _ (by rw [State.ch_modCh_same]; exact stop) (by exact quiesce),
      State.leaveLoading_lead _ c (by rw [State.ch_modCh_same]; exact leads) (by rw [State.ch_modCh_same]; exact first),
      State.modCh_modCh, State.ch_modCh_same]
    rfl
  · rw [exec_storeWrite s c a [v0, v1, v2] granted write, Store.writeWords_three,
      State.accessResult_writeback _ c _ (by exact writeback), State.logRecord_room _ c _ (by exact room) (by exact flushed)]
    rfl

end Sys2Proof.Machine
end

section
/-! PROOF. The load of a descriptor, the lead words and the turn (O24, O25). -/

namespace Sys2Proof.Machine

/-! ### Accesses of the memory port that succeed (R127) -/

/-- A matching response to the channel's own access hands it the words. -/
theorem exec_memoryResponse (s : State) (c : Chan) (a : Access) (n : BitVec 8) (t : Timer) (r : MemResponse)
    (ws : List Word) (issued : (s.mem c).slot = .outstanding a n t) (needless : (s.mem c).need = none)
    (result : a.memoryResult r = .ok ws) :
    exec (.memoryResponse c n r) s =
      .next (State.accessResult (s.modMem c fun m => { m with slot := .empty }) c (.ok ws)).settle := by
  simp only [exec, execMemoryResponse, issued, if_true, result, s.modMem_free c needless]

theorem Access.memoryResult_five (a : Access) (r : MemResponse) (read : a.body = .read 5) (error : r.error = 0) :
    a.memoryResult r = .ok [r.w0, r.w1, r.w2, r.w3, r.w4] := by
  unfold Access.memoryResult
  simp [read, error]

theorem Access.memoryResult_one (a : Access) (r : MemResponse) (read : a.body = .read 1)
    (error : r.error.getLsbD 0 = false) : a.memoryResult r = .ok [r.w0] := by
  unfold Access.memoryResult
  simp only [read, List.range_one, List.any_cons, List.any_nil, Bool.or_false, error, Bool.false_eq_true, if_false]
  rfl

theorem Access.memoryResult_write (a : Access) (r : MemResponse) (ws : List Word) (write : a.body = .write ws)
    (error : r.error.getLsbD 0 = false) : a.memoryResult r = .ok [] := by
  unfold Access.memoryResult
  simp only [write, error, Bool.false_eq_true, if_false]

/-! ### The first phase of a run (R45, R48, R50, R57) -/

section
variable (s : State) (c : Chan)

theorem State.leaveLoading_unled (unled : (s.ch c).run.snapshot.leads = 0) : s.leaveLoading c = s.afterLeads c :=
  if_pos unled

theorem State.afterLeads_turn (turn : (s.ch c).run.snapshot.turn = true) : s.afterLeads c = s.enterTurn c := if_pos turn

theorem State.afterLeads_data (straight : (s.ch c).run.snapshot.turn = false)
    (data : (s.ch c).run.snapshot.hasData = true) : s.afterLeads c = s.startRepetition c := by
  unfold State.afterLeads
  simp only [straight, data, Bool.false_eq_true, if_false, if_true]

theorem State.afterLeads_none (straight : (s.ch c).run.snapshot.turn = false)
    (none : (s.ch c).run.snapshot.hasData = false) : s.afterLeads c = s.endData c := by
  unfold State.afterLeads
  simp only [straight, none, Bool.false_eq_true, if_false]

theorem State.enterTurn_idle (idle : (s.port c).outstanding = none) :
    s.enterTurn c = State.sends (s.modCh c fun ch => { ch with state := .turn, run := { ch.run with portUsed := true } }) c
      .turn .none := by
  unfold State.enterTurn
  rw [State.runSend_idle _ _ _ _ (by exact idle), State.modRun_eq, State.modCh_modCh]

/-- With ASK 1 a run that nothing ends enters STATUS and sends its ASK (R57, R58). -/
theorem State.endData_ask (stop : (s.ch c).stopPending = false) (quiesce : s.hubState ≠ .quiescing)
    (idle : (s.port c).outstanding = none) (ask : (s.ch c).run.snapshot.ask = true) :
    s.endData c = State.sends
      (s.modCh c fun ch => { ch with state := .status, run := { ch.run with outcome := some .done, portUsed := true } }) c
      .ask .none := by
  unfold State.endData State.afterPhases State.enterStatus
  rw [if_pos (by simpa using ask), State.boundary_go _ c _ (by simpa using stop) (by exact quiesce),
    State.runSend_idle _ _ _ _ (by exact idle)]
  simp only [State.modRun_eq, State.modCh_modCh]

/-- With ASK 0 a run that has not used the port goes straight to the write-back (R59). -/
theorem State.endData_unused (unused : (s.ch c).run.portUsed = false) (unasked : (s.ch c).run.snapshot.ask = false) :
    s.endData c =
      (s.modCh c fun ch => { ch with state := .writeback, run := { ch.run with outcome := some .done } }).request c
        (postedSpace (s.ch c).current)
        { addr := wordAddr (s.ch c).run.descAddr 5,
          body := .write { s.ch c with run := { (s.ch c).run with outcome := some .done } }.writebackWords } := by
  unfold State.endData State.afterPhases
  rw [if_neg (by simp [unasked]), State.enterClosing_unused _ _ _ (by simpa using unused), State.modRun_eq, State.modCh_modCh,
    State.enterWriteback_modCh]
  rfl

end

theorem Snapshot.hasData_output {d : Snapshot} (out : d.dir = .output) : d.hasData = true := by
  unfold Snapshot.hasData; rw [out]; rfl

theorem Snapshot.hasData_input {d : Snapshot} (inward : d.dir = .input) : d.hasData = true := by
  unfold Snapshot.hasData; rw [inward]; rfl

theorem Snapshot.hasData_none {d : Snapshot} (none : d.dir = .none) : d.hasData = false := by
  unfold Snapshot.hasData; rw [none]; rfl

/-- A descriptor of good format with DIR NONE has no TURN (R24). -/
theorem Snapshot.turn_of_none {d : Snapshot} (format : d.formatOk = true) (none : d.dir = .none) : d.turn = false := by
  unfold Snapshot.formatOk at format
  simp only [Bool.and_eq_true, none, beq_self_eq_true, Bool.true_and, Bool.not_eq_true'] at format
  exact format.1.1.1.2

/-! ### Descriptors that fail (R24, R75, R112) -/

section
variable (s : State) (c : Chan) (ws : List Word) (d : Snapshot)

theorem State.descriptorRead_bad (read : Snapshot.ofWords ws = d) (bad : d.formatOk = false) :
    s.descriptorRead c ws =
      (s.modCh c fun ch => { ch with run := { ch.run with snapshot := d } }).faultLoaded c .badDescriptor 0 := by
  unfold State.descriptorRead
  rw [read]
  exact if_neg (by rw [bad]; exact nofun)

theorem State.descriptorRead_leadRange (read : Snapshot.ofWords ws = d) (format : d.formatOk = true) (led : d.leads ≠ 0)
    (outside : s.rangeOk (s.ch c).run.poster d.leadSpace d.w2 d.leads.toNat = false) :
    s.descriptorRead c ws =
      ((s.recordTrap (loadTrap .leadRange (s.ch c).run.poster c (withSpace d.w2 d.leadSpace) (d.leads.setWidth 16))).modCh c
        fun ch => { ch with run := { ch.run with snapshot := d } }).faultLoaded c .guard (withSpace d.w2 d.leadSpace) := by
  unfold State.descriptorRead
  rw [read]
  dsimp only
  rw [if_pos format]
  unfold State.checkRanges
  simp only [State.modRun_eq, State.ch_modCh_same]
  rw [if_pos ⟨led, outside⟩, State.recordTrap_modCh]
  rfl

theorem State.descriptorRead_bufferRange (read : Snapshot.ofWords ws = d) (format : d.formatOk = true)
    (list : d.leads ≠ 0 → s.rangeOk (s.ch c).run.poster d.leadSpace d.w2 d.leads.toNat = true) (data : d.hasData = true)
    (outside : s.rangeOk (s.ch c).run.poster d.dataSpace d.w3 d.count.toNat = false) :
    s.descriptorRead c ws =
      ((s.recordTrap (loadTrap .bufferRange (s.ch c).run.poster c (withSpace d.w3 d.dataSpace) d.count)).modCh c
        fun ch => { ch with run := { ch.run with snapshot := d } }).faultLoaded c .guard (withSpace d.w3 d.dataSpace) := by
  unfold State.descriptorRead
  rw [read]
  dsimp only
  rw [if_pos format]
  unfold State.checkRanges
  simp only [State.modRun_eq, State.ch_modCh_same]
  rw [if_neg fun ⟨led, fails⟩ => Bool.false_ne_true (fails.symm.trans (list led)), if_pos ⟨data, outside⟩,
    State.recordTrap_modCh]
  rfl

end

theorem State.faultLoaded_modCh (s : State) (c : Chan) (f : Channel → Channel) (o : RunOutcome) (a : Word) :
    (s.modCh c f).faultLoaded c o a =
      (s.modCh c fun ch => { (f ch).faulting o .load a with state := .writeback }).request c
        (postedSpace (f (s.ch c)).current)
        { addr := wordAddr (f (s.ch c)).run.descAddr 5, body := .write ((f (s.ch c)).faulting o .load a).writebackWords } := by
  rw [State.faultLoaded_eq, State.modCh_modCh, State.ch_modCh_same]

/-- Settles O24, by the checks and the first phase that the descriptor calls for. -/
theorem descriptorIsCheckedThenLed : Obligations.DescriptorIsCheckedThenLed := by
  intro s c addr n t r loading issued needless error
  have read : exec (.memoryResponse c n r) s = .next (State.settle
      ((s.modMem c fun m => { m with slot := .empty }).descriptorRead c [r.w0, r.w1, r.w2, r.w3, r.w4])) := by
    rw [exec_memoryResponse s c _ n t r _ issued needless (Access.memoryResult_five _ r rfl error),
      State.accessResult_loading _ c _ (by exact loading)]
  have words : Snapshot.ofWords [r.w0, r.w1, r.w2, r.w3, r.w4] =
      { w0 := r.w0, w1 := r.w1, w2 := r.w2, w3 := r.w3, w4 := r.w4 } := rfl
  rw [read]
  refine ⟨fun format stop quiesce list buffer => ?_, fun bad => ?_, fun format led outside => ?_,
    fun format list data outside => ?_⟩
  · rw [State.descriptorRead_good _ c _ _ words format (by exact list) (by exact buffer),
      State.boundary_go _ c _ (by rw [State.ch_modCh_same]; exact stop) (by exact quiesce)]
    refine ⟨fun led first => ?_, fun unled turn idle => ?_, fun unled straight out => ?_,
      fun unled straight inward hail low stopped => ?_, fun unled none ask idle => ?_, fun unled none unasked unused => ?_⟩
    · rw [State.leaveLoading_lead _ c (by rw [State.ch_modCh_same]; exact led) (by rw [State.ch_modCh_same]; exact first),
        State.modCh_modCh, State.ch_modCh_same]
      rfl
    all_goals rw [State.leaveLoading_unled _ c (by rw [State.ch_modCh_same]; exact unled)]
    · rw [State.afterLeads_turn _ c (by rw [State.ch_modCh_same]; exact turn), State.enterTurn_idle _ c (by exact idle),
        State.modCh_modCh]
      rfl
    · rw [State.afterLeads_data _ c (by rw [State.ch_modCh_same]; exact straight)
        (by rw [State.ch_modCh_same]; exact Snapshot.hasData_output out),
        State.startRepetition_output _ c (by rw [State.ch_modCh_same]; exact out), State.modCh_modCh, State.ch_modCh_same]
      rfl
    · have notOut : Snapshot.dir { w0 := r.w0, w1 := r.w1, w2 := r.w2, w3 := r.w3, w4 := r.w4 } ≠ .output := by
        rw [inward]; exact nofun
      rw [State.afterLeads_data _ c (by rw [State.ch_modCh_same]; exact straight)
        (by rw [State.ch_modCh_same]; exact Snapshot.hasData_input inward),
        State.startRepetition_input _ c (by rw [State.ch_modCh_same]; exact notOut), State.modCh_modCh,
        State.decide_starts _ c (by exact ⟨by rw [State.ch_modCh_same]; exact stop, quiesce, hail⟩) (by exact low)
          (by rw [State.ch_modCh_same]; exact stopped), State.modCh_modCh]
      rfl
    · rw [State.afterLeads_none _ c (by rw [State.ch_modCh_same]; exact Snapshot.turn_of_none format none)
        (by rw [State.ch_modCh_same]; exact Snapshot.hasData_none none),
        State.endData_ask _ c (by rw [State.ch_modCh_same]; exact stop) (by exact quiesce) (by exact idle)
          (by rw [State.ch_modCh_same]; exact ask), State.modCh_modCh]
      rfl
    · rw [State.afterLeads_none _ c (by rw [State.ch_modCh_same]; exact Snapshot.turn_of_none format none)
        (by rw [State.ch_modCh_same]; exact Snapshot.hasData_none none),
        State.endData_unused _ c (by rw [State.ch_modCh_same]; exact unused) (by rw [State.ch_modCh_same]; exact unasked),
        State.modCh_modCh, State.ch_modCh_same]
      rfl
  · rw [State.descriptorRead_bad _ c _ _ words bad, State.faultLoaded_modCh]
    rfl
  · rw [State.descriptorRead_leadRange _ c _ _ words format led (by exact outside), State.faultLoaded_modCh,
      State.ch_recordTrap]
    rfl
  · rw [State.descriptorRead_bufferRange _ c _ _ words format (by exact list) data (by exact outside), State.faultLoaded_modCh,
      State.ch_recordTrap]
    rfl

end Sys2Proof.Machine
end

section
/-! PROOF. The course of a run: lead words and the turn, words of the data phase, faults of its transactions, the CLOSE and the
write-back (O25 to O31). -/

namespace Sys2Proof.Machine

/-! ### Results of a run's transactions (R46, R58, R59) -/

section
variable (s : State) (c : Chan)

theorem State.runAnswer_tolerated (step : RunStep) (accepted : Word → State → State) (tolerated : State → State)
    (tolerate : (s.ch c).run.snapshot.tolerate = true) :
    s.runAnswer c step .refuse accepted tolerated = tolerated (s.countRefusal c) := if_pos tolerate

theorem State.runAnswer_refused (step : RunStep) (accepted : Word → State → State) (tolerated : State → State)
    (strict : (s.ch c).run.snapshot.tolerate = false) :
    s.runAnswer c step .refuse accepted tolerated = s.faultAbort c .refused step 0 := if_neg (by rw [strict]; exact nofun)

/-- A tolerated refusal is counted, saturating at 255. -/
theorem State.countRefusal_eq : s.countRefusal c = s.modCh c fun ch =>
    { ch with run := { ch.run with refusals := if ch.run.refusals = 255 then 255 else ch.run.refusals + 1 } } := by
  unfold State.countRefusal
  rw [State.modRun_eq]
  simp only [satInc_8]

theorem State.channelResult_lead (res : LinkResult) (lead : (s.ch c).state = .lead) :
    s.channelResult c res = s.runAnswer c .lead res (fun _ s => s.leadDone c) fun s => s.leadDone c := by
  unfold State.channelResult; simp only [lead]

theorem State.channelResult_turn (res : LinkResult) (turn : (s.ch c).state = .turn) :
    s.channelResult c res = s.runAnswer c .turn res (fun _ s => s.boundary c fun s => s.startRepetition c)
      fun s => s.boundary c fun s => s.startRepetition c := by
  unfold State.channelResult; simp only [turn]

theorem State.channelResult_data (res : LinkResult) (data : (s.ch c).state = .data) :
    s.channelResult c res = s.runAnswer c (s.ch c).run.dataStep res
      (fun w s => if (s.ch c).run.snapshot.dir = .output then s.wordDone c true else s.storeWord c w)
      fun s => s.wordDone c false := by
  unfold State.channelResult; simp only [data]

theorem State.channelResult_status (res : LinkResult) (status : (s.ch c).state = .status) :
    s.channelResult c res = s.runAnswer c .ask res (fun w s => (s.capture c w).afterAsk c) fun s => s.afterAsk c := by
  unfold State.channelResult; simp only [status]

/-- The step of the run at which a transaction of the channel stands (R71). -/
def Channel.stepAt (ch : Channel) : RunStep :=
  match ch.state with
  | .lead => .lead
  | .turn => .turn
  | .data => ch.run.dataStep
  | .status => .ask
  | _ => .none

/-- The channel has a LEAD, TURN, PUT, GET or ASK of a run outstanding, by its state. -/
def Channel.transacting (ch : Channel) : Prop :=
  ch.state = .lead ∨ ch.state = .turn ∨ ch.state = .data ∨ ch.state = .status

theorem State.channelResult_refused (phase : (s.ch c).transacting) (strict : (s.ch c).run.snapshot.tolerate = false) :
    s.channelResult c .refuse = s.faultAbort c .refused (s.ch c).stepAt 0 := by
  unfold Channel.stepAt
  rcases phase with h | h | h | h
  · rw [s.channelResult_lead c _ h, s.runAnswer_refused c _ _ _ strict, h]
  · rw [s.channelResult_turn c _ h, s.runAnswer_refused c _ _ _ strict, h]
  · rw [s.channelResult_data c _ h, s.runAnswer_refused c _ _ _ strict, h]
  · rw [s.channelResult_status c _ h, s.runAnswer_refused c _ _ _ strict, h]

theorem State.channelResult_noAnswer (phase : (s.ch c).transacting) :
    s.channelResult c .noAnswer = s.faultNoAnswer c (s.ch c).stepAt := by
  unfold Channel.stepAt
  rcases phase with h | h | h | h
  · rw [s.channelResult_lead c _ h, h]; rfl
  · rw [s.channelResult_turn c _ h, h]; rfl
  · rw [s.channelResult_data c _ h, h]; rfl
  · rw [s.channelResult_status c _ h, h]; rfl

end

/-- Each phase with its transaction and the name of its step. -/
theorem Channel.stepAt_of_listed {ch : Channel} {x : ChState × Kind × RunStep}
    (listed : x ∈ [(ChState.lead, Kind.lead, RunStep.lead), (.turn, .turn, .turn), (.data, .put, .put), (.data, .get, .get),
      (.status, .ask, .ask)]) (state : ch.state = x.1)
    (dir : x.1 = .data → (ch.run.snapshot.dir = .output ↔ x.2.1 = .put)) : ch.transacting ∧ ch.stepAt = x.2.2 := by
  unfold Channel.transacting Channel.stepAt
  simp only [List.mem_cons, List.not_mem_nil, or_false] at listed
  rcases listed with rfl | rfl | rfl | rfl | rfl
  · exact ⟨.inl state, by rw [state]⟩
  · exact ⟨.inr (.inl state), by rw [state]⟩
  · refine ⟨.inr (.inr (.inl state)), ?_⟩
    rw [state]
    simp only [Run.dataStep_eq]
    exact if_pos ((dir rfl).mpr rfl)
  · refine ⟨.inr (.inr (.inl state)), ?_⟩
    rw [state]
    simp only [Run.dataStep_eq]
    exact if_neg fun out => by cases (dir rfl).mp out
  · exact ⟨.inr (.inr (.inr state)), by rw [state]⟩

/-- Settles O26, by the fault that a refusal is. -/
theorem refusalIsAFault : Obligations.RefusalIsAFault := by
  intro s c q o awake strict used x listed state dir sent
  obtain ⟨phase, step⟩ := Channel.stepAt_of_listed listed state dir
  rw [exec_answer_channel s c x.2.1 q .refuse o awake sent nofun]
  have aborts : (s.endTransaction c).channelResult c .refuse = (s.endTransaction c).faultAbort c .refused x.2.2 0 := by
    rw [State.channelResult_refused _ c (by exact phase) (by exact strict)]
    exact congrArg (fun st => State.faultAbort _ c _ st 0) step
  rw [show Transaction.resultOf _ .refuse o = .refuse from rfl, aborts,
    State.faultAbort_used _ c _ _ _ (by exact used) (s.outstanding_endTransaction c)]
  rfl

/-- Settles O27, by the fault that an expiry is. -/
theorem noAnswerClearsThePort : Obligations.NoAnswerClearsThePort := by
  intro s c q due x listed state dir sent
  obtain ⟨phase, step⟩ := Channel.stepAt_of_listed listed state dir
  rw [exec_noAnswer_channel s c x.2.1 q sent due]
  have fails : (s.endTransaction c).channelResult c .noAnswer = (s.endTransaction c).faultNoAnswer c x.2.2 := by
    rw [State.channelResult_noAnswer _ c (by exact phase)]
    exact congrArg (State.faultNoAnswer _ c) step
  have ended : (s.endTransaction c).endTransaction c = s.endTransaction c := State.modPort_modPort ..
  rw [fails, State.faultNoAnswer_eq, ended]
  rfl

/-! ### Lead words and the turn (R48, R50) -/

section
variable (s : State) (c : Chan)

/-- After a lead word that is not the last the next is read. -/
theorem State.leadDone_more (more : (s.ch c).run.leadsDone + 1 ≠ (s.ch c).run.snapshot.leads)
    (stop : (s.ch c).stopPending = false) (quiesce : s.hubState ≠ .quiescing) :
    s.leadDone c = (s.modCh c fun ch => { ch with run := { ch.run with leadsDone := ch.run.leadsDone + 1 } }).request c
      (s.ch c).run.snapshot.leadSpace
      { addr := wordAddr (s.ch c).run.leadAddr ((s.ch c).run.leadsDone + 1).toNat, body := .read 1 } := by
  unfold State.leadDone
  rw [State.modRun_eq, State.boundary_go _ c _ (by rw [State.ch_modCh_same]; exact stop) (by exact quiesce),
    if_neg (by rw [State.ch_modCh_same]; exact more)]
  unfold State.fetchLead
  rw [State.ch_modCh_same]

theorem State.leadDone_last (last : (s.ch c).run.leadsDone + 1 = (s.ch c).run.snapshot.leads)
    (stop : (s.ch c).stopPending = false) (quiesce : s.hubState ≠ .quiescing) :
    s.leadDone c =
      (s.modCh c fun ch => { ch with run := { ch.run with leadsDone := ch.run.leadsDone + 1 } }).afterLeads c := by
  unfold State.leadDone
  rw [State.modRun_eq, State.boundary_go _ c _ (by rw [State.ch_modCh_same]; exact stop) (by exact quiesce),
    if_pos (by rw [State.ch_modCh_same]; exact last)]

end

/-- Settles O25, by the phase and the answer. -/
theorem leadWordsThenTurnGoInOrder : Obligations.LeadWordsThenTurnGoInOrder := by
  refine ⟨fun s c lead stop quiesce => ⟨fun addr n t r idle needless issued error => ?_, fun q o awake sent =>
    ⟨fun more => ?_, fun more tolerate => ?_, fun last turn => ?_⟩⟩, fun s c q o awake turn stop quiesce out sent =>
    ⟨?_, fun tolerate => ?_⟩⟩
  · rw [exec_memoryResponse s c _ n t r _ issued needless (Access.memoryResult_one _ r rfl error),
      State.accessResult_lead _ c _ (by exact lead), State.boundary_go _ c _ (by exact stop) (by exact quiesce),
      State.runSend_idle _ _ _ _ (by exact idle)]
    rfl
  · change exec (.answer c .accept Kind.lead.code q o) s = _
    rw [exec_answer_channel s c .lead q .accept o awake sent nofun, State.channelResult_lead _ c _ (by exact lead)]
    exact congrArg (fun u => Host.Outcome.next (State.settle u))
      (State.leadDone_more (s.endTransaction c) c more stop quiesce)
  · change exec (.answer c .refuse Kind.lead.code q o) s = _
    rw [exec_answer_channel s c .lead q .refuse o awake sent nofun, State.channelResult_lead _ c _ (by exact lead)]
    rw [show Transaction.resultOf _ .refuse o = .refuse from rfl,
      State.runAnswer_tolerated (s.endTransaction c) c _ _ _ tolerate, State.countRefusal_eq, State.leadDone_more _ c (by rw [State.ch_modCh_same]; exact more)
      (by rw [State.ch_modCh_same]; exact stop) (by exact quiesce), State.modCh_modCh, State.ch_modCh_same]
    rfl
  · change exec (.answer c .accept Kind.lead.code q o) s = _
    rw [exec_answer_channel s c .lead q .accept o awake sent nofun, State.channelResult_lead _ c _ (by exact lead)]
    refine (congrArg (fun u => Host.Outcome.next (State.settle u))
      (State.leadDone_last (s.endTransaction c) c last stop quiesce)).trans ?_
    rw [State.afterLeads_turn _ c (by rw [State.ch_modCh_same]; exact turn), State.enterTurn_idle _ c
      (by exact s.outstanding_endTransaction c), State.modCh_modCh]
    rfl
  · change exec (.answer c .accept Kind.turn.code q o) s = _
    rw [exec_answer_channel s c .turn q .accept o awake sent nofun, State.channelResult_turn _ c _ (by exact turn)]
    refine (congrArg (fun u => Host.Outcome.next (State.settle u)) ((State.boundary_go (s.endTransaction c) c
      (fun u => u.startRepetition c) stop quiesce).trans (State.startRepetition_output _ c out))).trans rfl
  · change exec (.answer c .refuse Kind.turn.code q o) s = _
    rw [exec_answer_channel s c .turn q .refuse o awake sent nofun, State.channelResult_turn _ c _ (by exact turn)]
    refine (congrArg (fun u => Host.Outcome.next (State.settle u))
      (State.runAnswer_tolerated (s.endTransaction c) c _ _ _ tolerate)).trans ?_
    rw [State.countRefusal_eq, State.boundary_go _ c _ (by rw [State.ch_modCh_same]; exact stop) (by exact quiesce),
      State.startRepetition_output _ c (by rw [State.ch_modCh_same]; exact out), State.modCh_modCh, State.ch_modCh_same]
    rfl

/-! ### Words of the data phase (R52, R53, R55 to R57) -/

section
variable (s : State) (c : Chan)

/-- The repetition is over: the channel is no longer within one. -/
def Channel.outOfRepetition (ch : Channel) : Channel := { ch with run := { ch.run with inRepetition := false } }

theorem State.repetitionDone_ends (u : s.undisturbed c)
    (ends : (s.ch c).run.snapshot.loop = false ∨
      ((s.ch c).run.snapshot.loopLimit ≠ 0 ∧ (s.ch c).reps = (s.ch c).run.snapshot.loopLimit)) :
    s.repetitionDone c = (s.modCh c Channel.outOfRepetition).endData c := by
  obtain ⟨stop, quiesce, hail⟩ := u
  unfold State.repetitionDone
  rw [State.modRun_eq, State.boundary_go _ c _ (by rw [State.ch_modCh_same]; exact stop) (by exact quiesce)]
  simp only [State.ch_modCh_same, State.port_modCh]
  rcases ends with once | limit
  · exact if_pos once
  · split
    · rfl
    · rw [if_neg (by rw [hail]; exact nofun)]
      rfl

theorem State.repetitionDone_paces (u : s.undisturbed c) (loop : (s.ch c).run.snapshot.loop = true)
    (below : (s.ch c).run.snapshot.loopLimit = 0 ∨ (s.ch c).reps ≠ (s.ch c).run.snapshot.loopLimit)
    (pace : (s.ch c).run.snapshot.pace ≠ 0) :
    s.repetitionDone c = s.modCh c fun ch =>
      { ch.outOfRepetition with state := .pacing, paceTimer := .running ch.run.snapshot.pace.toNat } := by
  obtain ⟨stop, quiesce, hail⟩ := u
  have further : ¬ ((s.ch c).run.snapshot.loopLimit ≠ 0 ∧ (s.ch c).reps = (s.ch c).run.snapshot.loopLimit) := by
    rintro ⟨bounded, limit⟩
    exact below.elim bounded fun different => different limit
  unfold State.repetitionDone
  rw [State.modRun_eq, State.boundary_go _ c _ (by rw [State.ch_modCh_same]; exact stop) (by exact quiesce)]
  simp only [State.ch_modCh_same, State.port_modCh]
  rw [if_neg (by rw [loop]; exact nofun), if_neg (by rw [hail]; exact nofun), if_neg further, if_neg pace, State.modCh_modCh]
  refine State.modCh_congr s c ?_
  simp only [Timer.start_toNat, Channel.outOfRepetition, if_neg pace]

end

/-- An accepted PUT counts its word. -/
theorem exec_put_accepted (s : State) (c : Chan) (q : BitVec 8) (o : Option Word) (awake : s.resetAsserted = false)
    (data : (s.ch c).state = .data) (out : (s.ch c).run.snapshot.dir = .output)
    (sent : (s.port c).outstanding = some { kind := .put, seq := q, issuer := .channel }) :
    exec (.answer c .accept 3 q o) s = .next ((s.endTransaction c).wordDone c true).settle := by
  change exec (.answer c .accept Kind.put.code q o) s = _
  rw [exec_answer_channel s c .put q .accept o awake sent nofun, State.channelResult_data _ c _ (by exact data)]
  exact congrArg (fun u => Host.Outcome.next (State.settle u)) (if_pos out)

/-- A refused PUT or GET of a tolerant run is passed over, the refusal being counted. -/
theorem exec_word_tolerated (s : State) (c : Chan) (k : Kind) (q : BitVec 8) (o : Option Word)
    (awake : s.resetAsserted = false) (data : (s.ch c).state = .data) (tolerate : (s.ch c).run.snapshot.tolerate = true)
    (sent : (s.port c).outstanding = some { kind := k, seq := q, issuer := .channel }) :
    exec (.answer c .refuse k.code q o) s =
      .next (((s.endTransaction c).modCh c fun ch =>
        { ch with run := { ch.run with refusals := if ch.run.refusals = 255 then 255 else ch.run.refusals + 1 } }).wordDone c
          false).settle := by
  rw [exec_answer_channel s c k q .refuse o awake sent nofun, State.channelResult_data _ c _ (by exact data),
    show Transaction.resultOf _ .refuse o = .refuse from rfl,
    State.runAnswer_tolerated (s.endTransaction c) c _ _ _ tolerate, State.countRefusal_eq]

/-- Settles O28, by what follows the word. -/
theorem acceptedPutMovesOn : Obligations.AcceptedPutMovesOn := by
  intro s c q o awake data u out sent d counted closed
  obtain ⟨stop, quiesce, hail⟩ := u
  have idle : ((s.endTransaction c).port c).outstanding = none := s.outstanding_endTransaction c
  have still : (s.endTransaction c).undisturbed c := ⟨stop, quiesce, by simpa using hail⟩
  have last (finished : (s.ch c).run.remaining = 1) : exec (.answer c .accept 3 q o) s =
      .next (((s.endTransaction c).modCh c (Channel.counted true)).repetitionDone c).settle :=
    (exec_put_accepted s c q o awake data out sent).trans
      (congrArg (fun u => Host.Outcome.next (State.settle u)) (State.wordDone_last (s.endTransaction c) c true finished))
  have outside : ∀ ch : Channel, counted false ch = Channel.outOfRepetition (Channel.counted true ch) := fun ch => by
    simp only [counted, Channel.outOfRepetition, Channel.counted, Bool.and_false, if_true]
  have within : ∀ ch : Channel, counted true ch = Channel.counted true ch := fun ch => by
    simp only [counted, Channel.counted, Bool.and_true, if_true]
  have u1 : ((s.endTransaction c).modCh c (Channel.counted true)).undisturbed c := State.undisturbed_modCh still _ rfl
  refine ⟨fun more => ?_, fun more tolerate => ?_, fun finished ask ends => ?_, fun finished unasked used ends => ?_,
    fun finished loop below pace => ?_⟩
  · rw [exec_put_accepted s c q o awake data out sent,
      State.wordDone_more (s.endTransaction c) c true more stop quiesce,
      State.nextWord_output _ c (by rw [State.ch_modCh_same]; exact out), funext within]
    simp only [State.ch_modCh_same]
    rfl
  · refine (exec_word_tolerated s c .put q o awake data tolerate sent).trans ?_
    rw [State.wordDone_more _ c false (by rw [State.ch_modCh_same]; exact more) (by rw [State.ch_modCh_same]; exact stop)
      (by exact quiesce), State.modCh_modCh, State.nextWord_output _ c (by rw [State.ch_modCh_same]; exact out)]
    simp only [State.ch_modCh_same]
    rfl
  · rw [last finished, State.repetitionDone_ends _ c u1 (by rw [State.ch_modCh_same]; exact ends), State.modCh_modCh,
      State.endData_ask _ c (by rw [State.ch_modCh_same]; exact stop) (by exact quiesce) (by exact idle)
        (by rw [State.ch_modCh_same]; exact ask), State.modCh_modCh]
    simp only [outside]
  · rw [last finished, State.repetitionDone_ends _ c u1 (by rw [State.ch_modCh_same]; exact ends), State.modCh_modCh,
      State.endData_close _ c (by rw [State.ch_modCh_same]; exact used) (by exact idle)
        (by rw [State.ch_modCh_same]; exact unasked), State.modCh_modCh]
    simp only [closed, outside]
  · rw [last finished, State.repetitionDone_paces _ c u1 (by rw [State.ch_modCh_same]; exact loop)
      (by rw [State.ch_modCh_same]; exact below) (by rw [State.ch_modCh_same]; exact pace), State.modCh_modCh]
    refine congrArg (fun u => Host.Outcome.next (State.settle u)) (State.modCh_congr _ c ?_)
    simp only [outside]
    rfl

end Sys2Proof.Machine
end

section
/-! PROOF. The words a run writes, the CLOSE and the write-back (O29 to O31). -/

namespace Sys2Proof.Machine

/-! ### Words written (R53) -/

/-- A repetition that is begun goes on with the next GET as READY is asserted. -/
theorem State.nextWord_get (s : State) (c : Chan) (u : s.undisturbed c) (inward : (s.ch c).run.snapshot.dir ≠ .output)
    (ready : (s.port c).ready = true) (idle : (s.port c).outstanding = none) (begun : (s.ch c).run.inRepetition = true) :
    s.nextWord c = State.sends
      (s.modCh c fun ch => { ch with readyTimer := .stopped, run := { ch.run with outWord := none, portUsed := true } }) c .get
      (.mark ((s.ch c).run.position + 1 == (s.ch c).run.snapshot.count.toNat)) := by
  rw [State.nextWord_input s c inward, State.decide_ready s c u ready, State.sendWord_get s c inward idle]
  refine congrArg (fun x => State.sends x c .get _) (State.modCh_congr s c ?_)
  simp [Channel.sendingWord, Channel.beginRepetition, begun]

/-- Settles O29, by what becomes of the word. -/
theorem acceptedGetIsWrittenThenCounted : Obligations.AcceptedGetIsWrittenThenCounted := by
  intro s c data inward
  have notOut : (s.ch c).run.snapshot.dir ≠ .output := by rw [inward]; exact nofun
  refine ⟨fun q w awake sent => ?_, fun a w n t r write u idle ready needless issued error more begun => ?_,
    fun q o awake tolerate u ready more begun sent => ?_⟩
  · change exec (.answer c .accept Kind.get.code q (some w)) s = _
    rw [exec_answer_channel s c .get q .accept (some w) awake sent fun _ _ => nofun,
      State.channelResult_data _ c _ (by exact data)]
    exact congrArg (fun u => Host.Outcome.next (State.settle u)) (if_neg notOut)
  · rw [exec_memoryResponse s c a n t r [] issued needless (Access.memoryResult_write a r [w] write error),
      State.accessResult_input _ c _ (by exact data) (by exact notOut),
      State.wordDone_more _ c _ (by exact more) (by exact u.1) (by exact u.2.1),
      State.nextWord_get _ c (by exact State.undisturbed_modCh u _ rfl) (by rw [State.ch_modCh_same]; exact notOut)
        (by exact ready) (by exact idle) (by rw [State.ch_modCh_same]; exact begun), State.modCh_modCh, State.ch_modCh_same]
    rfl
  · obtain ⟨stop, quiesce, hail⟩ := u
    have still : (s.endTransaction c).undisturbed c := ⟨stop, quiesce, by simpa using hail⟩
    refine (exec_word_tolerated s c .get q o awake data tolerate sent).trans ?_
    rw [State.wordDone_more _ c false (by rw [State.ch_modCh_same]; exact more) (by rw [State.ch_modCh_same]; exact stop)
      (by exact quiesce), State.modCh_modCh, State.nextWord_get _ c (State.undisturbed_modCh still _ rfl)
        (by rw [State.ch_modCh_same]; exact notOut) (by simpa using ready) (by exact s.outstanding_endTransaction c)
        (by rw [State.ch_modCh_same]; exact begun), State.modCh_modCh, State.ch_modCh_same]
    rfl

/-! ### The CLOSE (R59, R78) -/

theorem State.channelResult_answered (s : State) (c : Chan) (t : Transaction) (code : AnswerCode) (o : Option Word)
    (closing : (s.ch c).state = .closing) : s.channelResult c (t.resultOf code o) = s.enterWriteback c := by
  unfold State.channelResult
  cases code <;> simp only [closing, Transaction.resultOf]

theorem State.channelResult_unanswered (s : State) (c : Chan) (closing : (s.ch c).state = .closing) :
    s.channelResult c .noAnswer = s.closeUnanswered c := by
  unfold State.channelResult
  simp only [closing]

/-- Settles O30, by how the CLOSE ends. -/
theorem closeLeadsToTheWriteback : Obligations.CloseLeadsToTheWriteback := by
  intro s c q closing sent written
  have ended : (s.endTransaction c).pulseClear c = (s.endTransaction c).emit (.clear c) :=
    congrArg (fun u => State.emit u (.clear c)) (State.modPort_modPort ..)
  refine ⟨fun awake code o => ?_, fun due => ⟨fun faulted => ?_, fun unfaulted => ?_⟩⟩
  · change exec (.answer c code Kind.close.code q o) s = _
    rw [exec_answer_channel s c .close q code o awake sent fun _ h => (nomatch h),
      State.channelResult_answered _ c _ _ _ (by exact closing), State.enterWriteback_eq]
    rfl
  · rw [exec_noAnswer_channel s c .close q sent due, State.channelResult_unanswered _ c (by exact closing)]
    unfold State.closeUnanswered
    rw [if_pos (by exact faulted), ended]
    unfold State.modFlags
    rw [State.modRun_eq, State.enterWriteback_modCh]
    rfl
  · rw [exec_noAnswer_channel s c .close q sent due, State.channelResult_unanswered _ c (by exact closing)]
    unfold State.closeUnanswered
    have noFault : ¬ ((s.endTransaction c).ch c).run.faulted = true := by
      rw [State.ch_endTransaction, unfaulted]
      exact nofun
    rw [if_neg noFault, ended]
    unfold State.modFlags
    simp only [State.modRun_eq, State.modCh_modCh]
    rw [State.enterWriteback_modCh]
    rfl

/-! ### The write-back (R60, R79, R81) -/

/-- What the result of its write-back makes of the channel. -/
def Channel.writtenBack (failed : Bool) (ch : Channel) : Channel :=
  { ch with run := { ch.run with flags := { ch.run.flags with writebackFailed := ch.run.flags.writebackFailed || failed } } }

/-- The response to the write-back, with or without ERROR, offers the record of the run's final state. -/
theorem exec_writebackResponse (s : State) (c : Chan) (a : Access) (ws : List Word) (n : BitVec 8) (t : Timer)
    (r : MemResponse) (writeback : (s.ch c).state = .writeback) (write : a.body = .write ws)
    (issued : (s.mem c).slot = .outstanding a n t) (needless : (s.mem c).need = none) :
    exec (.memoryResponse c n r) s =
      .next (State.logRecord ((s.modMem c fun m => { m with slot := .empty }).modCh c (Channel.writtenBack (r.error.getLsbD 0)))
        c (((s.ch c).writtenBack (r.error.getLsbD 0)).runRecord c)).settle := by
  cases error : r.error.getLsbD 0 with
  | false =>
    have same : ∀ ch : Channel, ch.writtenBack false = ch := fun ch => by
      simp only [Channel.writtenBack, Bool.or_false]
    rw [exec_memoryResponse s c a n t r [] issued needless (Access.memoryResult_write a r ws write error),
      State.accessResult_writeback _ c _ (by exact writeback), funext same, State.modCh_id]
    rfl
  | true =>
    have marked : ∀ ch : Channel, ch.writtenBack true =
        { ch with run := { ch.run with flags := { ch.run.flags with writebackFailed := true } } } := fun ch => by
      simp only [Channel.writtenBack, Bool.or_true]
    have fails : ∀ o (u : State), u.channels = s.channels → u.ports = s.ports → u.logs = s.logs →
        u.accessResult c (.failed o) = (u.modCh c (Channel.writtenBack true)).logRecord c (((s.ch c).writtenBack true).runRecord c) := by
      intro o u channels _ _
      have here : u.ch c = s.ch c := State.ch_of_channels channels c
      unfold State.accessResult
      simp only [here, writeback]
      unfold State.modFlags State.logRun
      rw [State.modRun_eq, State.ch_modCh_same, here, funext marked]
    exact (exec_failedAccess s c a 1 needless (.inr ⟨rfl, ws, write⟩) (fun _ u =>
      (u.modCh c (Channel.writtenBack true)).logRecord c (((s.ch c).writtenBack true).runRecord c)) fails).1 n t r issued
      ⟨0, Nat.one_pos, error⟩

/-- Settles O31, by the room of the log and the pending flush count. -/
theorem writebackEndsInTheLog : Obligations.WritebackEndsInTheLog := by
  intro s c a ws n t r o writeback write issued needless outcome run flags d record freed after flushed accepted
  have recorded : ((s.ch c).writtenBack (r.error.getLsbD 0)).runRecord c = record := by
    unfold Channel.runRecord
    simp only [Channel.writtenBack, outcome, Option.getD_some]
    rfl
  rw [exec_writebackResponse s c a ws n t r writeback write issued needless, recorded]
  have here : ((freed.modCh c (Channel.writtenBack (r.error.getLsbD 0))).ch c) =
      (s.ch c).writtenBack (r.error.getLsbD 0) := State.ch_modCh_same ..
  refine ⟨fun unflushed room => ?_, fun pending room => ?_, fun pending last => ?_, fun full => ?_⟩
  · rw [State.logRecord_room _ c record (by rw [here]; exact room) (by rw [here]; exact unflushed), here]
    refine congrArg (fun u => Host.Outcome.next (State.settle (if flags.halted = true then State.latchChannel u c else u))) ?_
    rw [State.modLog_modCh, State.modCh_modCh]
    refine State.modCh_congr _ c ?_
    have unchanged : (s.ch c).flushCount = 0 := unflushed
    simp [Channel.writtenBack, unchanged, record, after]
  · rw [State.logRecord_room_flushed _ c record (by rw [here]; exact room) (by rw [here]; exact pending), here]
    refine congrArg (fun u => Host.Outcome.next (State.settle (if flags.halted = true then State.latchChannel u c else u))) ?_
    rw [State.modLog_modCh, State.modCh_modCh]
    rfl
  · rw [State.logRecord_last_flushed _ c record (by rw [here]; exact last) (by rw [here]; exact pending), here,
      State.modLog_modCh, State.modCh_modCh]
    rfl
  · rw [State.logRecord_full _ c record (by rw [here]; exact Nat.not_lt.mpr full), here, State.modLog_modCh,
      State.modCh_modCh]
    rfl

end Sys2Proof.Machine
end

section
/-! PROOF. Status words of runs and the end of an attention service (O33, O34). -/

namespace Sys2Proof.Machine

/-! ### After a run's ASK (R58, R69) -/

/-- A run that has used the port closes NORMAL, or, a STOP being pending, ends STOPPED and closes ABORT. -/
theorem State.afterAsk_modRun (s : State) (c : Chan) (f : Run → Run) (used : (f (s.ch c).run).portUsed = true)
    (idle : (s.port c).outstanding = none) :
    (s.modCh c fun ch => { ch with run := f ch.run }).afterAsk c =
      if (s.ch c).stopPending then
        State.sends
          (s.modCh c fun ch =>
            { ch with
              state := .closing, stopPending := false, readyTimer := .stopped, paceTimer := .stopped,
              run := { f ch.run with outWord := none, outcome := some .stopped } })
          c .close (.close .abort)
      else State.sends (s.modCh c fun ch => { ch with state := .closing, run := f ch.run }) c .close (.close .normal) := by
  have used' : ((s.modCh c fun ch => { ch with run := f ch.run }).ch c).run.portUsed = true := by
    rw [State.ch_modCh_same]
    exact used
  unfold State.afterAsk
  rw [State.ch_modCh_same]
  cases stop : (s.ch c).stopPending with
  | true =>
    rw [if_pos rfl, if_pos rfl, State.stopEnding_used _ c _ used' idle, State.modCh_modCh]
    rfl
  | false =>
    rw [if_neg nofun, if_neg nofun, State.enterClosing_used _ c _ used' idle, State.modCh_modCh]
    have marked : { f (s.ch c).run with portUsed := true } = f (s.ch c).run := by rw [← used]
    exact congrArg (fun u => State.sends u c _ _) (State.modCh_congr s c
      (congrArg (fun r => ({ s.ch c with state := .closing, run := r } : Channel)) marked))

theorem exec_ask_accepted (s : State) (c : Chan) (q : BitVec 8) (w : Word) (awake : s.resetAsserted = false)
    (sent : (s.port c).outstanding = some { kind := .ask, seq := q, issuer := .channel }) :
    exec (.answer c .accept 5 q (some w)) s = .next ((s.endTransaction c).channelResult c (.accept w)).settle :=
  exec_answer_channel s c .ask q .accept (some w) awake sent fun _ _ => nofun

theorem exec_ask_refused (s : State) (c : Chan) (q : BitVec 8) (o : Option Word) (awake : s.resetAsserted = false)
    (sent : (s.port c).outstanding = some { kind := .ask, seq := q, issuer := .channel }) :
    exec (.answer c .refuse 5 q o) s = .next ((s.endTransaction c).channelResult c .refuse).settle :=
  exec_answer_channel s c .ask q .refuse o awake sent nofun

/-- Settles O33, by the answer and the entry that acts. -/
theorem statusWordIsScreenedThenClosed : Obligations.StatusWordIsScreenedThenClosed := by
  intro s c q w awake status used sent closes
  have idle : ((s.endTransaction c).port c).outstanding = none := s.outstanding_endTransaction c
  have accepted : exec (.answer c .accept 5 q (some w)) s =
      .next (((s.endTransaction c).capture c w).afterAsk c).settle := by
    rw [exec_ask_accepted s c q w awake sent, State.channelResult_status _ c _ (by exact status)]
    rfl
  refine ⟨fun tolerate o => ?_, fun unacted => ?_, fun k acts => ?_⟩
  · rw [exec_ask_refused s c q o awake sent, State.channelResult_status _ c _ (by exact status),
      State.runAnswer_tolerated (s.endTransaction c) c _ _ _ tolerate, State.countRefusal_eq]
    exact congrArg (fun u => Host.Outcome.next (State.settle u)) (State.afterAsk_modRun (s.endTransaction c) c
      (fun r => { r with refusals := if r.refusals = 255 then 255 else r.refusals + 1 }) used idle)
  · rw [accepted, State.capture_none (s.endTransaction c) c w unacted]
    exact congrArg (fun u => Host.Outcome.next (State.settle u)) (State.afterAsk_modRun (s.endTransaction c) c
      (fun r => { r with status := w, flags := { r.flags with statusPresent := true } }) used idle)
  · intro e hit
    have beside : (s.endTransaction c).screenHit c k = hit := by
      unfold State.screenHit
      rw [satInc_16]
      rfl
    rw [accepted, State.capture_acts (s.endTransaction c) c w k acts, beside]
    exact congrArg (fun u => Host.Outcome.next (State.settle u)) (State.afterAsk_modRun hit c
      (fun r => { r with
        status := w, screenIndex := k,
        flags := { r.flags with statusPresent := true, screenMatch := true, halted := r.flags.halted || e.action == 2 } })
      used idle)

/-! ### The end of a service (R145) -/

theorem State.channelResult_servicing (s : State) (c : Chan) (res : LinkResult) (servicing : (s.ch c).state = .servicing) :
    s.channelResult c res = s.serviceAnswer c res := by
  unfold State.channelResult
  simp only [servicing]

/-- Settles O34, by how the ASK ends. -/
theorem serviceEndsInItsRecord : Obligations.ServiceEndsInItsRecord := by
  intro s c q servicing unflushed blank room sent record logged
  refine ⟨fun awake w unmatched => ?_, fun awake o => ?_, fun due => ?_⟩
  · have unacted : s.actingEntry c w = none := (s.actingEntry_eq_none c w).mpr unmatched
    rw [exec_ask_accepted s c q w awake sent, State.channelResult_servicing _ c _ (by exact servicing)]
    unfold State.serviceAnswer
    dsimp only
    rw [State.capture_none (s.endTransaction c) c w unacted, State.ch_modCh_same,
      State.logRecord_room _ c _ (by rw [State.ch_modCh_same]; exact room) (by rw [State.ch_modCh_same]; exact unflushed)]
    simp only [State.ch_endTransaction, blank]
    rw [State.ch_modCh_same, State.modLog_modCh, State.modCh_modCh]
    rfl
  · rw [exec_ask_refused s c q o awake sent, State.channelResult_servicing _ c _ (by exact servicing)]
    unfold State.serviceAnswer
    dsimp only
    rw [State.logRecord_room _ c _ (by exact room) (by exact unflushed)]
    rfl
  · have ended : (s.endTransaction c).pulseClear c = (s.endTransaction c).emit (.clear c) :=
      congrArg (fun u => State.emit u (.clear c)) (State.modPort_modPort ..)
    rw [exec_noAnswer_channel s c .ask q sent due, State.channelResult_servicing _ c _ (by exact servicing)]
    unfold State.serviceAnswer
    dsimp only
    rw [ended, State.logRecord_room _ c _ (by exact room) (by exact unflushed)]
    rfl

end Sys2Proof.Machine
end

section
/-! PROOF. The commands of a channel and of the hub, requests to post and the resets (O36, O37, O39 to O41, O43, O45, O47,
O54). -/

namespace Sys2Proof.Machine

/-! ### Commands that set the channel's own fields (R42, R85, R155, R156) -/

theorem exec_chCommand {i : Instr} {d : Dom} {c : Chan} (v : Word) (spelled : writeOf i = some (d, .ch c .command, v))
    (s : State) (reaches : s.reachesChannel d c) : exec i s = .next (s.chCommand d c v) :=
  exec_write_ch spelled s reaches

theorem State.chCommand_unassigned (s : State) (d : Dom) (c : Chan) (v : Word) (unassigned : v = 0 ∨ 7 < v.toNat) :
    s.chCommand d c v = s.modCh c fun ch => { ch with lastCmd := .ignored } := by
  have outside : v.toNat = 0 ∨ 7 < v.toNat := unassigned.imp_left fun zero => by rw [zero]; rfl
  unfold State.chCommand
  split
  case h_8 => rfl
  all_goals omega

theorem State.cmdDetach_attached (s : State) (c : Chan) (attached : (s.ch c).detached = false) :
    s.cmdDetach 0 c =
      if (s.ch c).state = .idle ∨ (s.ch c).state = .halted then
        s.modCh c fun ch => { ch with detached := true, detachPending := false, lastCmd := .accepted }
      else s.modCh c fun ch => { ch with detachPending := true, lastCmd := .deferred } :=
  if_neg (by rw [attached]; exact nofun)

/-- Settles O36, by the command. -/
theorem channelCommandsSetTheirFields : Obligations.ChannelCommandsSetTheirFields := by
  intro s d c reaches
  refine ⟨exec_chCommand 1 rfl s reaches, fun v unassigned => ?_, ?_⟩
  · rw [exec_chCommand v rfl s reaches, s.chCommand_unassigned d c v unassigned]
  rintro rfl
  refine ⟨exec_chCommand 7 rfl s reaches, fun detached => ?_, fun attached resting => ?_, fun attached active => ?_⟩
  · exact (exec_chCommand 6 rfl s reaches).trans (congrArg Host.Outcome.next (if_pos detached))
  · exact (exec_chCommand 6 rfl s reaches).trans
      (congrArg Host.Outcome.next ((s.cmdDetach_attached c attached).trans (if_pos resting)))
  · exact (exec_chCommand 6 rfl s reaches).trans
      (congrArg Host.Outcome.next ((s.cmdDetach_attached c attached).trans (if_neg active)))

/-! ### RESUME (R82) -/

/-- Where nothing is left undone `State.settle` does nothing. -/
theorem State.settle_of_caughtUp {s : State} (caught : s.caughtUp) : s.settle = s := by
  have channels : s.pendingEffects.channels = s.channels :=
    Vector.ext fun i hi => by
      rw [State.pendingEffects, Vector.getElem_map]
      exact Channel.pendingEffects_of_caughtUp ⟨caught.detach ⟨i, hi⟩, caught.domain ⟨i, hi⟩⟩
  have granted : s.grant = s := by
    unfold State.grant
    cases store : s.granted with
    | some g => rfl
    | none =>
      obtain ⟨noHost, noChannel⟩ := caught.store store
      have nobody : (nextAfter s.lastGranted fun c => (s.storeReq c).isSome) = none :=
        (nextAfter_eq_none _ _).mpr fun c => by rw [noChannel c]; rfl
      unfold State.grantChannel
      simp only [noHost, ne_eq, not_true_eq_false, false_and, if_false, nobody]
  have presented : s.present.presented = s.presented := by
    unfold State.present
    cases shown : s.presented with
    | some c => simp only [caught.presents c shown, if_true, shown]
    | none => exact (nextAfter_eq_none _ _).mpr (caught.idlePort shown)
  have hub : (if s.hubState = .quiescing ∧ s.atRest = true then HubState.quiesced else s.hubState) = s.hubState :=
    if_neg fun ⟨quiescing, rest⟩ => by rw [caught.quiesce quiescing] at rest; cases rest
  rw [State.settle_eq, channels, granted, presented, hub]

/-- A HALTED channel that resumes is no more ready for a pending change than it was. -/
theorem State.caughtUp_resumed {s : State} (caught : s.caughtUp) (c : Chan) (halted : (s.ch c).state = .halted) :
    (s.modCh c fun ch => { ch with state := .idle, lastCmd := .accepted }).caughtUp := by
  refine State.caughtUp_of caught (fun x => ?_) (fun quiescing => ?_) ⟨rfl, rfl, rfl, rfl⟩ fun _ => rfl
  · by_cases own : x = c
    · rw [own, State.ch_modCh_same]
      refine fun ⟨detach, domain⟩ => ⟨fun pending => absurd (.inr halted) (detach pending), fun pending => ?_⟩
      have unempty := domain pending
      simpa [Channel.empty, halted] using unempty
    · rw [State.ch_modCh_ne s _ own]; exact id
  · refine State.atRest_false_of (caught.quiesce quiescing) (fun x => ?_) id
    by_cases own : x = c
    · unfold State.settled
      simp only [own, State.ch_modCh_same, halted]
    · exact State.settled_congr _ _ x (by rw [State.ch_modCh_ne s _ own]) (by rw [State.ch_modCh_ne s _ own])

/-- Settles O37, by the state of the channel. -/
theorem resumeOnlyLeavesHalted : Obligations.ResumeOnlyLeavesHalted := by
  intro s d c reaches
  refine ⟨fun halted caught => ?_, fun other => ?_⟩
  · refine (exec_chCommand 4 rfl s reaches).trans (congrArg Host.Outcome.next ((if_pos halted).trans ?_))
    exact State.settle_of_caughtUp (State.caughtUp_resumed caught c halted)
  · exact (exec_chCommand 4 rfl s reaches).trans (congrArg Host.Outcome.next (if_neg other))

/-! ### FLUSH (R35 to R37) -/

theorem satAdd8_zero (x : BitVec 8) : satAdd8 x 0 = x := by
  unfold satAdd8
  rw [Nat.add_zero, Nat.min_eq_right (by omega), BitVec.ofNat_toNat, BitVec.setWidth_eq]

/-- The FLUSHED record of the entries of one queue, which do not saturate its count. -/
theorem flushedRecord_few (c : Chan) (n : Nat) (few : n ≤ 6) : flushedRecord c (satAdd8 0 n) =
    { outcome := .flushed, flags := Flags.clear, channel := c, screenIndex := 0, step := .none, reps := BitVec.ofNat 16 n,
      tag := 0, words := 0, leadsDone := 0, refusals := 0, status := 0, faultAddr := 0, descriptor := 0 } := by
  interval_cases n <;> rfl

/-- A FLUSHED record that its log has room for becomes the tail, and the channel leaves LOGGING. -/
theorem State.produceFlushed_room (s : State) (c : Chan) (room : (s.log (s.ch c).domain).records.length < 16) :
    s.produceFlushed c = State.leaveLogging
      ((s.modLog (s.ch c).domain fun l => { l with records := l.records ++ [flushedRecord c (s.ch c).flushCount] }).modCh c
        fun ch => { ch with flushCount := 0 }) c := by
  have hasRoom : (s.log (s.ch c).domain).hasRoom = true := decide_eq_true room
  unfold State.produceFlushed State.offerFlushed
  simp only [State.ch_modCh_same, State.log_modCh, hasRoom, if_true, State.modLog_modCh]
  rfl

theorem State.leaveLogging_idle (s : State) (c : Chan) (after : (s.ch c).afterLogging = .idle) :
    s.leaveLogging c = s.modCh c fun ch => { ch with state := .idle, held := none } := by
  unfold State.leaveLogging
  simp only [after]

theorem State.leaveLogging_backToHalted (s : State) (c : Chan) (after : (s.ch c).afterLogging = .backToHalted) :
    s.leaveLogging c = s.modCh c fun ch => { ch with state := .halted, held := none } := by
  unfold State.leaveLogging
  simp only [after]

/-- Settles O39, by the state of the channel. -/
theorem flushReportsTheDiscardedRuns : Obligations.FlushReportsTheDiscardedRuns := by
  intro s d c reaches n record
  have flushes : exec (.flush d c) s = .next (s.cmdFlush c) := exec_chCommand 3 rfl s reaches
  refine ⟨fun none => ?_, fun queued active => ?_, fun queued few unflushed room x listed state => ?_⟩
  · rw [flushes]
    refine congrArg Host.Outcome.next ((if_pos none).trans (State.modCh_congr s c ?_))
    rw [none, List.length_nil, satAdd8_zero]
  · rw [flushes]
    unfold State.cmdFlush
    dsimp only
    rw [if_neg queued, if_neg fun idle => active (.inl idle), if_neg fun halted => active (.inr halted)]
    rfl
  · have recorded : flushedRecord c (satAdd8 (s.ch c).flushCount n) = record := by
      rw [unflushed]
      exact flushedRecord_few c n few
    have produces : s.cmdFlush c = State.settle (State.produceFlushed
        (s.modCh c fun ch => { ch with
          queue := [], flushCount := satAdd8 ch.flushCount ch.queue.length, lastCmd := .accepted, afterLogging := x.2 }) c) ∧
        ∀ u : State, (u.ch c).afterLogging = x.2 →
          u.leaveLogging c = u.modCh c fun ch => { ch with state := x.1, held := none } := by
      unfold State.cmdFlush
      simp only [List.mem_cons, List.not_mem_nil, or_false] at listed
      rcases listed with rfl | rfl
      · dsimp only
        rw [if_neg queued, if_pos state, State.modCh_modCh]
        exact ⟨rfl, fun u => u.leaveLogging_idle c⟩
      · dsimp only
        rw [if_neg queued, if_neg (by rw [state]; exact nofun), if_pos state, State.modCh_modCh]
        exact ⟨rfl, fun u => u.leaveLogging_backToHalted c⟩
    obtain ⟨produced, leaves⟩ := produces
    rw [flushes, produced, State.produceFlushed_room _ c (by rw [State.ch_modCh_same]; exact room), State.ch_modCh_same,
      recorded, leaves _ (by rw [State.ch_modCh_same, State.ch_modLog, State.ch_modCh_same]), State.modLog_modCh,
      State.modCh_modCh, State.modCh_modCh]
    refine congrArg (fun u => Host.Outcome.next (State.settle u)) (State.modCh_congr _ c ?_)
    simp only [State.ch_modLog, state, unflushed]

/-! ### RESET_CHANNEL (R83) -/

theorem MemSlot.abandon_eq (m : MemSlot) : m.abandon =
    { m with
      slot := match m.slot with
        | .outstanding _ k t => .abandoned k t
        | .abandoned k t => .abandoned k t
        | _ => .empty,
      need := none } := by
  unfold MemSlot.abandon
  cases slot : m.slot <;> simp only [← slot]

/-- Settles O40, by what RESET_CHANNEL comes to. -/
theorem resetChannelAbandonsEverything : Obligations.ResetChannelAbandonsEverything := by
  intro s d c reaches cancels
  refine (exec_chCommand 5 rfl s reaches).trans (congrArg Host.Outcome.next ?_)
  refine (s.resetChan_eq c).trans (congrArg State.settle ?_)
  rw [MemSlot.abandon_eq]
  cases s.granted with
  | none => rfl
  | some g => cases g <;> rfl

/-! ### Requests to post (R31, R32) -/

/-- Settles O41, by the checks of R32 in their order. -/
theorem postIsDecidedByTheFirstFailure : Obligations.PostIsDecidedByTheFirstFailure := by
  intro s d c v reaches status inWindow
  have aligned : postedAligned v = false ↔ v.extractLsb' 1 4 ≠ 0 := by
    unfold postedAligned
    rw [beq_eq_false_iff_ne]
  refine (exec_write_ch rfl s reaches).trans (congrArg Host.Outcome.next ?_)
  exact if_congr Iff.rfl rfl (if_congr Iff.rfl rfl (if_congr aligned rfl (if_congr Iff.rfl rfl rfl)))

end Sys2Proof.Machine
end

section
/-! PROOF. The commands of the hub, domain changes and the resets (O43, O45, O47, O54). -/

namespace Sys2Proof.Machine

/-! ### Commands of the hub (R177, R181, R182) -/

theorem exec_hubCommand {i : Instr} (v : Word) (spelled : writeOf i = some (0, .hubCommand, v)) (s : State)
    (past : s.hubState ≠ .initialising) : exec i s = .next (s.hubCommand v) :=
  exec_write_hub spelled s past rfl

theorem State.hubCommand_unassigned (s : State) (v : Word) (unassigned : v = 0 ∨ 3 < v.toNat) :
    s.hubCommand v = { s with hubLastCmd := .ignored } := by
  have outside : v.toNat = 0 ∨ 3 < v.toNat := unassigned.imp_left fun zero => by rw [zero]; rfl
  unfold State.hubCommand
  split
  case h_4 => rfl
  all_goals omega

/-- Settles O43, by the command or the change of the supply. -/
theorem hubCommandsSetTheHubState : Obligations.HubCommandsSetTheHubState := by
  intro s
  refine ⟨fun ⟨past, _⟩ => ⟨fun quiesced calm => ?_, fun not => ?_, fun other => ?_, fun v unassigned => ?_⟩,
    fun other => if_neg other, rfl⟩
  · exact (exec_hubCommand 3 rfl s past).trans (congrArg Host.Outcome.next (if_pos ⟨quiesced, calm⟩))
  · refine (exec_hubCommand 3 rfl s past).trans (congrArg Host.Outcome.next (if_neg ?_))
    rintro ⟨quiesced, calm⟩
    rcases not with unquiesced | warned
    · exact unquiesced quiesced
    · rw [calm] at warned; cases warned
  · exact (exec_hubCommand 2 rfl s past).trans (congrArg Host.Outcome.next (if_neg other))
  · rw [exec_hubCommand v rfl s past, s.hubCommand_unassigned v unassigned]

/-! ### Domain changes (R118) -/

theorem Channel.empty_iff (ch : Channel) : ch.empty = true ↔ ch.resting ∧ ch.queue = [] ∧ ch.held = none := by
  unfold Channel.empty Channel.resting
  simp only [Bool.and_eq_true, Bool.or_eq_true, beq_iff_eq, List.isEmpty_iff, Option.isNone_iff_eq_none, and_assoc]

/-- The value of GRD_ASSIGN names a channel and a domain. -/
theorem State.assign_named (s : State) (c : Chan) (d : Dom) (v : Word) (channel : (v.extractLsb' 0 3).toNat = c.val)
    (domain : (v.extractLsb' 4 2).toNat = d.val) :
    s.assign v =
      if (s.ch c).domain = d then s.modCh c fun ch => { ch with pendingDomain := none, lastCmd := .accepted }
      else if (s.ch c).empty then
        s.modCh c fun ch => { ch with domain := d, pendingDomain := none, lastCmd := .accepted }
      else s.modCh c fun ch => { ch with pendingDomain := some d, lastCmd := .deferred } := by
  have c' : (Fin.ofNat 8 (v.extractLsb' 0 3).toNat : Chan) = c :=
    Fin.ext (by rw [Fin.val_ofNat, channel]; exact Nat.mod_eq_of_lt c.isLt)
  have d' : (Fin.ofNat 4 (v.extractLsb' 4 2).toNat : Dom) = d :=
    Fin.ext (by rw [Fin.val_ofNat, domain]; exact Nat.mod_eq_of_lt d.isLt)
  unfold State.assign
  rw [c', d']

/-- Settles O47, by the first row of the table that applies. -/
theorem assignmentWaitsForAnEmptyChannel : Obligations.AssignmentWaitsForAnEmptyChannel := by
  intro s c d v ⟨past, _⟩ channel domain empty
  have assigns : exec (.grdAssign 0 v) s = .next (s.assign v) :=
    exec_write_hub (r := .assign) (v := v) rfl s past rfl
  rw [assigns, s.assign_named c d v channel domain]
  refine ⟨fun own => ?_, fun other vacant => ?_, fun other occupied => ?_⟩
  · rw [if_pos own]
  · rw [if_neg other, if_pos ((s.ch c).empty_iff.mpr vacant)]
  · rw [if_neg other, if_neg fun vacant => occupied ((s.ch c).empty_iff.mp vacant)]

/-! ### The resets (R174 to R176) -/

/-- Settles O45, by what HUB_RESET comes to. -/
theorem hubResetKeepsOnlyWhatIsNotItsOwn : Obligations.HubResetKeepsOnlyWhatIsNotItsOwn := by
  intro s ⟨past, _⟩
  refine (exec_hubCommand 1 rfl s past).trans (congrArg Host.Outcome.next ?_)
  refine s.resetHub_eq.trans (congrArg State.settle ?_)
  rw [funext MemSlot.abandon_eq]
  cases s.granted with
  | none => rfl
  | some g => cases g <;> rfl

section
variable (s : State)

theorem State.ch_powerOn (c : Chan) : s.powerOn.ch c = Channel.reset := State.ch_reset c

theorem State.port_powerOn (c : Chan) : s.powerOn.port c = (s.port c).afterReset := by
  simp only [State.port, State.powerOn, Vector.getElem_map]

theorem State.sources_powerOn : s.powerOn.sources = 0 := by
  change State.reset.sources = 0
  decide

/-- No source is pending after power-on reset, and so none drives a line. -/
theorem identWord_powerOn (line : BitVec 2) : identWord (s.powerOn.driver line) = 0 := by
  have undriven : s.powerOn.driver line = none := by
    unfold State.driver State.drives
    rw [List.find?_eq_none]
    intro n _
    simp [State.sources_powerOn]
  rw [undriven]
  rfl

theorem State.windows_powerOn (i : Fin 3) : s.powerOn.windows[i.val] = Window.reset := Vector.getElem_replicate ..

theorem State.screen_powerOn (k : Fin 8) : s.powerOn.screen[k.val] = ScreenEntry.reset := Vector.getElem_replicate ..

/-- A channel's registers after power-on reset; READY and HAIL, in bits 17:16 of CH_PORT, are the partner's. -/
theorem State.readCh_powerOn (c : Chan) (x : ChReg) :
    (if x = .port then s.powerOn.readCh c x &&& 0xFFFCFFFF else s.powerOn.readCh c x) =
      if x = .config then 0xC35003E8 else 0 := by
  cases x with
  | command | post => rfl
  | status =>
    have idle : s.powerOn.wait c = .none := by
      unfold State.wait
      rw [State.ch_powerOn]
      rfl
    simp only [State.readCh, State.chStatusWord, idle, State.ch_powerOn]
    decide
  | postStatus | config | progress | current =>
    simp only [State.readCh, State.ch_powerOn]
    decide
  | port =>
    simp only [State.readCh, State.port_powerOn, Port.afterReset, Port.word]
    cases (s.port c).ready <;> cases (s.port c).hail <;> decide

theorem State.readLog_powerOn (d : Dom) (x : LogReg) : s.powerOn.readLog d x = if x = .threshold then 1 else 0 := by
  have log : s.powerOn.log d = Log.reset := State.log_reset d
  cases x with
  | pop => rfl
  | count | threshold => simp only [State.readLog, log]; decide
  | head k => simp only [State.readLog, log]; rfl

end

/-- Settles O54, by the reset and the register read. -/
theorem resetsLeaveTheirValues : Obligations.ResetsLeaveTheirValues := by
  intro s
  refine ⟨?_, rfl, fun initialising awake => ?_, fun not => if_neg ?_⟩
  · intro t
    refine ⟨rfl, fun r => ?_⟩
    cases r with
    | ch c x =>
      have word := s.readCh_powerOn c x
      cases x <;> exact word
    | log d x =>
      have word := s.readLog_powerOn d x
      cases x <;> exact word
    | hubStatus =>
      change s.powerOn.hubStatusWord = _
      cases warned : s.supplyWarn with
      | false => simp only [State.hubStatusWord, State.powerOn, warned]; decide
      | true => simp only [State.hubStatusWord, State.powerOn, warned]; decide
    | hostBase i | hostSize i | stageBase i | stageSize i =>
      change s.powerOn.readReg _ = _
      simp only [State.readReg, State.windows_powerOn]
      rfl
    | evcRaw | evcPending =>
      change s.powerOn.sources.setWidth 32 = _
      rw [State.sources_powerOn]
      rfl
    | screen k w =>
      change ScreenEntry.word s.powerOn.screen[k.val] w = 0
      rw [State.screen_powerOn]
      fin_cases w <;> rfl
    | evcIdentAlert => exact identWord_powerOn s 1
    | evcIdentNotice => exact identWord_powerOn s 2
    | dirStatus =>
      change Direct.reset.statusWord = 0
      decide
    | _ => rfl
  · exact (if_pos ⟨initialising, awake⟩).trans (congrArg Host.Outcome.next s.endInitialisation_eq)
  · rintro ⟨initialising, awake⟩
    rcases not with other | held
    · exact other initialising
    · rw [awake] at held; cases held

end Sys2Proof.Machine
end

section
/-! PROOF. STOP and quiesce: runs that end at a boundary (O38, O44). -/

namespace Sys2Proof.Machine

/-! ### A boundary that ends the run (R41, R70) -/

/-- The channel finds a STOP pending, or no STOP but the hub QUIESCING, and its run ends with the outcome. -/
def State.endsBy (s : State) (c : Chan) (o : RunOutcome) : Prop :=
  ((s.ch c).stopPending = true ∧ o = .stopped) ∨ ((s.ch c).stopPending = false ∧ s.hubState = .quiescing ∧ o = .quiesced)

/-- The run ends early from a channel that a step has brought to `m`: by a CLOSE ABORT, or, with the port not used, straight by the
write-back. -/
def State.endedEarly (s : State) (c : Chan) (o : RunOutcome) (m : Channel → Channel) : State :=
  if (m (s.ch c)).run.portUsed then
    (s.modCh c fun ch => { (m ch).endingEarly o with state := .closing }).sends c .close (.close .abort)
  else
    (s.modCh c fun ch => { (m ch).endingEarly o with state := .writeback }).request c (postedSpace (m (s.ch c)).current)
      { addr := wordAddr (m (s.ch c)).run.descAddr 5, body := .write ((m (s.ch c)).endingEarly o).writebackWords }

section
variable {s : State} {c : Chan} {o : RunOutcome}

theorem State.stopEnding_modCh (s : State) (c : Chan) (o : RunOutcome) (m : Channel → Channel)
    (idle : (m (s.ch c)).run.portUsed = true → (s.port c).outstanding = none) :
    (s.modCh c m).stopEnding c o = s.endedEarly c o m := by
  unfold State.endedEarly
  cases used : (m (s.ch c)).run.portUsed with
  | true =>
    rw [if_pos rfl, State.stopEnding_used _ c o (by rw [State.ch_modCh_same]; exact used) (by exact idle used), State.modCh_modCh]
  | false =>
    rw [if_neg nofun, State.stopEnding_unused _ c o (by rw [State.ch_modCh_same]; exact used), State.modCh_modCh,
      State.ch_modCh_same]

/-- A step that keeps the stop-pending mark meets the boundary, at which the run ends. -/
theorem State.boundary_modCh (ends : s.endsBy c o) (idle : (s.port c).outstanding = none) (m : Channel → Channel)
    (mark : (m (s.ch c)).stopPending = (s.ch c).stopPending) (go : State → State) :
    (s.modCh c m).boundary c go = s.endedEarly c o m := by
  rw [State.boundary_ends _ c o go (by rw [State.ch_modCh_same, mark]; exact ends), s.stopEnding_modCh c o m fun _ => idle]

theorem State.endsBy_modCh (ends : s.endsBy c o) (m : Channel → Channel)
    (mark : (m (s.ch c)).stopPending = (s.ch c).stopPending) : (s.modCh c m).endsBy c o := by
  unfold State.endsBy
  rw [State.ch_modCh_same, mark]
  exact ends

theorem State.endedEarly_congr (s : State) (c : Chan) (o : RunOutcome) {m m' : Channel → Channel}
    (channel : m (s.ch c) = m' (s.ch c)) : s.endedEarly c o m = s.endedEarly c o m' := by
  unfold State.endedEarly
  have ending (st : ChState) : (s.modCh c fun ch => { (m ch).endingEarly o with state := st }) =
      s.modCh c fun ch => { (m' ch).endingEarly o with state := st } :=
    State.modCh_congr s c (congrArg (fun ch : Channel => { ch.endingEarly o with state := st }) channel)
  simp only [ending, channel]

theorem State.endedEarly_modCh (s : State) (c : Chan) (o : RunOutcome) (f m : Channel → Channel) :
    (s.modCh c f).endedEarly c o m = s.endedEarly c o (m ∘ f) := by
  unfold State.endedEarly
  rw [State.ch_modCh_same, State.modCh_modCh, State.modCh_modCh]
  rfl

theorem State.boundary_early (ends : s.endsBy c o) (idle : (s.port c).outstanding = none) (go : State → State) :
    s.boundary c go = s.endedEarly c o id := by
  rw [← State.boundary_modCh ends idle id rfl go]
  exact congrArg (fun u => State.boundary u c go) (State.modCh_id s c).symm

/-! ### Steps of a run that end at their boundary -/

theorem State.leadDone_early (ends : s.endsBy c o) (idle : (s.port c).outstanding = none) :
    s.leadDone c = s.endedEarly c o fun ch => { ch with run := { ch.run with leadsDone := ch.run.leadsDone + 1 } } := by
  unfold State.leadDone
  rw [State.modRun_eq]
  exact State.boundary_modCh ends idle _ rfl _

/-- What dealing with a word makes of a channel whose run then ends: a repetition whose last word it was is complete. -/
def Channel.passed (completed : Bool) (ch : Channel) : Channel :=
  { ch.counted completed with
    run := { (ch.counted completed).run with inRepetition := ch.run.inRepetition && decide (1 < ch.run.remaining) } }

theorem State.wordDone_early (ends : s.endsBy c o) (idle : (s.port c).outstanding = none) (completed : Bool) :
    s.wordDone c completed = s.endedEarly c o (Channel.passed completed) := by
  have passed : ∃ go, s.wordDone c completed = (s.modCh c (Channel.passed completed)).boundary c go := by
    have left : ((s.modCh c (Channel.counted completed)).ch c).run.remaining = (s.ch c).run.remaining - 1 := by
      rw [State.ch_modCh_same]
      rfl
    by_cases more : 1 < (s.ch c).run.remaining
    · have further : s.wordDone c completed =
          (s.modCh c (Channel.counted completed)).boundary c fun u => u.nextWord c := if_neg (left ▸ by omega)
      refine ⟨_, further.trans (congrArg (fun u => State.boundary u c _) (State.modCh_congr s c ?_))⟩
      simp only [Channel.passed, Channel.counted, more, decide_true, Bool.and_true]
    · have complete : s.wordDone c completed = (s.modCh c (Channel.counted completed)).repetitionDone c :=
        if_pos (left ▸ by omega)
      rw [complete]
      unfold State.repetitionDone
      rw [State.modRun_eq, State.modCh_modCh]
      refine ⟨_, congrArg (fun u => State.boundary u c _) (State.modCh_congr s c ?_)⟩
      simp only [Channel.passed, Channel.counted, more, decide_false, Bool.and_false]
  obtain ⟨go, boundary⟩ := passed
  rw [boundary]
  exact State.boundary_modCh ends idle _ rfl go

/-- A channel that waits for READY, or paces, ends its run at once. -/
theorem State.reexamine_early (s : State) (c : Chan) (o : RunOutcome) (m : Channel → Channel)
    (waits : (s.modCh c m).waitsForReady c ∨ (m (s.ch c)).state = .pacing) (ends : (s.modCh c m).endsBy c o)
    (idle : (m (s.ch c)).run.portUsed = true → (s.port c).outstanding = none) :
    (s.modCh c m).reexamine c = s.endedEarly c o m := by
  rw [← s.stopEnding_modCh c o m idle]
  rcases waits with waits | pacing
  · rw [State.reexamine_wait _ c waits]
    exact State.boundary_ends _ c o _ ends
  · rw [State.reexamine_pacing _ c (by rw [State.ch_modCh_same]; exact pacing)]
    exact State.boundary_ends _ c o _ ends

end

/-! ### STOP (R67, R68, R86) -/

section
variable (s : State) (c : Chan)

theorem State.waitsForReady_modCh (f : Channel → Channel) (state : (f (s.ch c)).state = (s.ch c).state) :
    (s.modCh c f).waitsForReady c ↔ s.waitsForReady c := by
  unfold State.waitsForReady State.wait
  rw [State.ch_modCh_same, state]
  exact and_congr_right fun data => by simp only [data]; rfl

theorem State.ch_sends (k : Kind) (p : Payload) (x : Chan) : (s.sends c k p).ch x = s.ch x := rfl

theorem State.ch_request (sp : Space) (a : Access) (x : Chan) : (s.request c sp a).ch x = s.ch x := by
  cases sp <;> rfl

theorem State.sends_modCh (k : Kind) (p : Payload) (f : Channel → Channel)
    (timeout : (f (s.ch c)).answerTimeout = (s.ch c).answerTimeout) :
    (s.sends c k p).modCh c f = (s.modCh c f).sends c k p := by
  unfold State.sends
  rw [State.ch_modCh_same, timeout]
  rfl

theorem State.request_modCh (sp : Space) (a : Access) (f : Channel → Channel) :
    (s.request c sp a).modCh c f = (s.modCh c f).request c sp a := by
  cases sp <;> rfl

/-- LAST_CMD has no part in the ending of a run. -/
theorem State.endedEarly_setLastCmd (o : RunOutcome) (m : Channel → Channel) (st : ChCmdStatus) :
    (s.endedEarly c o m).setLastCmd c st = s.endedEarly c o fun ch => { m ch with lastCmd := st } := by
  unfold State.endedEarly State.setLastCmd
  dsimp only
  split
  · rw [State.sends_modCh _ c _ _ _ rfl, State.modCh_modCh]
    rfl
  · rw [State.request_modCh, State.modCh_modCh]
    rfl

theorem State.stopPending_endedEarly (o : RunOutcome) (m : Channel → Channel) :
    ((s.endedEarly c o m).ch c).stopPending = false := by
  unfold State.endedEarly
  split
  · rw [State.ch_sends, State.ch_modCh_same]
    rfl
  · rw [State.ch_request, State.ch_modCh_same]
    rfl

/-- What STOP does to the channel before it examines its run. -/
def Channel.stopAsked (ch : Channel) : Channel :=
  { ch with armed := false, stopPending := ch.stopPending || ch.state.stoppable }

theorem State.cmdStop_eq : s.cmdStop c = State.settle (((s.modCh c Channel.stopAsked).reexamine c).setLastCmd c
    (if (((s.modCh c Channel.stopAsked).reexamine c).ch c).stopPending then .deferred else .accepted)) := rfl

theorem State.cmdStop_active (unwaiting : ¬ s.waitsForReady c) (unpaced : (s.ch c).state ≠ .pacing) :
    s.cmdStop c = State.settle (s.modCh c fun ch =>
      { ch.stopAsked with lastCmd := if (s.ch c).stopAsked.stopPending then .deferred else .accepted }) := by
  have same : (s.modCh c Channel.stopAsked).reexamine c = s.modCh c Channel.stopAsked :=
    State.reexamine_other _ c (by rw [State.waitsForReady_modCh s c _ rfl]; exact unwaiting)
      (by rw [State.ch_modCh_same]; exact unpaced)
  rw [State.cmdStop_eq, same, State.ch_modCh_same]
  exact congrArg State.settle (State.modCh_modCh ..)

theorem State.cmdStop_waiting (waits : s.waitsForReady c ∨ (s.ch c).state = .pacing)
    (idle : (s.ch c).run.portUsed = true → (s.port c).outstanding = none) :
    s.cmdStop c = (s.endedEarly c .stopped fun ch => { ch.stopAsked with lastCmd := .accepted }).settle := by
  have marked : (s.ch c).stopAsked.stopPending = true := by
    have state : (s.ch c).state.stoppable = true := by
      rcases waits with ⟨data, _⟩ | pacing
      · rw [data]; rfl
      · rw [pacing]; rfl
    exact (congrArg _ state).trans (Bool.or_true _)
  have ended : (s.modCh c Channel.stopAsked).reexamine c = s.endedEarly c .stopped Channel.stopAsked :=
    s.reexamine_early c .stopped _ (waits.imp_left (s.waitsForReady_modCh c _ rfl).mpr)
      (.inl ⟨by rw [State.ch_modCh_same]; exact marked, rfl⟩) idle
  rw [State.cmdStop_eq, ended, State.stopPending_endedEarly, State.endedEarly_setLastCmd]
  rfl

end

/-- An access of a run has ended well: it reaches the channel with the words read, or none. -/
theorem exec_accessEnded (s : State) (c : Chan) (a : Access) (ws : List Word) (i : Instr) (u : State)
    (ended : (∃ n t r, (s.mem c).slot = .outstanding a n t ∧ (s.mem c).need = none ∧ i = .memoryResponse c n r ∧
          r.error = 0 ∧ ws = [r.w0, r.w1, r.w2, r.w3, r.w4] ∧ u = s.modMem c fun m => { m with slot := .empty }) ∨
        (s.granted = some (.channel c a true) ∧ i = .storeAccessDone ∧
          (∀ n, a.body = .read n → ws = (s.store.readWords a.addr n).map StoreWord.data ∧
            (s.store.readWords a.addr n).all StoreWord.agrees = true) ∧
          u = { s with granted := none, store := a.storeEffect s.store })) :
    ∃ ws', exec i s = .next (u.accessResult c (.ok ws')).settle ∧ (a.body = .read 5 → ws' = ws) := by
  rcases ended with ⟨n, t, r, issued, needless, rfl, error, words, rfl⟩ | ⟨granted, rfl, read, rfl⟩
  · have result : ∃ ws', a.memoryResult r = .ok ws' ∧ (a.body = .read 5 → ws' = ws) := by
      unfold Access.memoryResult
      cases body : a.body with
      | read n =>
        refine ⟨[r.w0, r.w1, r.w2, r.w3, r.w4].take n, if_neg (by simp [error]), fun five => ?_⟩
        cases five
        exact words.symm
      | write v => exact ⟨[], if_neg (by simp [error]), nofun⟩
    obtain ⟨ws', ok, five⟩ := result
    exact ⟨ws', exec_memoryResponse s c a n t r ws' issued needless ok, five⟩
  · have result : ∃ ws', a.storeResult s.store = .ok ws' ∧ (a.body = .read 5 → ws' = ws) := by
      unfold Access.storeResult
      cases body : a.body with
      | read n =>
        obtain ⟨words, agree⟩ := read n body
        exact ⟨ws, by rw [words]; exact if_pos agree, fun _ => rfl⟩
      | write v => exact ⟨[], rfl, nofun⟩
    obtain ⟨ws', ok, five⟩ := result
    refine ⟨ws', ?_, five⟩
    rw [exec_storeAccessDone_channel s c a true granted, ← ok]
    rfl

theorem ChState.stoppable_iff (st : ChState) :
    st.stoppable = true ↔ st ∈ [ChState.loading, .lead, .turn, .data, .pacing, .status] := by
  cases st <;> decide

/-- Settles O38, by the state in which STOP or the boundary finds the run. -/
theorem stopDisarmsAndEndsTheRun : Obligations.StopDisarmsAndEndsTheRun := by
  refine ⟨fun s d c reaches => ?_, fun s c o ending => ?_⟩
  · have stops : exec (.stop d c) s = .next (s.cmdStop c) := exec_chCommand 2 rfl s reaches
    rw [stops]
    refine ⟨fun outside unstopped => ?_, fun active unwaiting => ?_, fun waits => ⟨fun used idle => ?_, fun unused => ?_⟩⟩
    · have unstoppable : (s.ch c).state.stoppable = false :=
        Bool.eq_false_iff.mpr fun stoppable => outside ((ChState.stoppable_iff _).mp stoppable)
      have unmarked : (s.ch c).stopAsked.stopPending = false := by
        simp only [Channel.stopAsked, unstopped, unstoppable, Bool.or_false]
      rw [s.cmdStop_active c (fun waits => outside (by simp [waits.1])) (fun paces => outside (by simp [paces])), unmarked]
      refine congrArg (fun u => Host.Outcome.next (State.settle u)) (State.modCh_congr s c ?_)
      simp [Channel.stopAsked, unstopped, unstoppable]
    · have stoppable : (s.ch c).state.stoppable = true := by
        rw [ChState.stoppable_iff]
        simp only [List.mem_cons, List.not_mem_nil, or_false] at active ⊢
        tauto
      have marked : (s.ch c).stopAsked.stopPending = true := by
        simp only [Channel.stopAsked, stoppable, Bool.or_true]
      rw [s.cmdStop_active c unwaiting (fun paces => by simp [paces] at active), marked]
      refine congrArg (fun u => Host.Outcome.next (State.settle u)) (State.modCh_congr s c ?_)
      simp [Channel.stopAsked, stoppable]
    · rw [s.cmdStop_waiting c waits fun _ => idle]
      exact congrArg (fun u => Host.Outcome.next (State.settle u)) (if_pos used)
    · have unused' : ¬ (s.ch c).run.portUsed = true := by rw [unused]; exact nofun
      rw [s.cmdStop_waiting c waits fun used => absurd used unused']
      exact congrArg (fun u => Host.Outcome.next (State.settle u)) (if_neg unused')
  · intro early ends moved counted
    have ending : s.endsBy c o := ending
    refine ⟨fun q w k awake used sent => ?_, fun a ws i u idle ended => ?_⟩
    · intro accepted refused tolerated u
      have idle : (u.port c).outstanding = none := s.outstanding_endTransaction c
      have ending' : u.endsBy c o := ending
      have refuses : refused = .next (u.channelResult c .refuse).settle :=
        exec_answer_channel s c k q .refuse w awake sent nofun
      have ending'' : (u.modCh c fun ch => { ch with run := tolerated ch.run }).endsBy c o :=
        State.endsBy_modCh ending' _ rfl
      have passes (step : RunStep) (go : State → State) (tolerate : (s.ch c).run.snapshot.tolerate = true) (acc) :
          u.runAnswer c step .refuse acc go = go (u.modCh c fun ch => { ch with run := tolerated ch.run }) :=
        (State.runAnswer_tolerated u c step acc go tolerate).trans (congrArg go (State.countRefusal_eq u c))
      refine ⟨fun lead kind => ⟨?_, fun tolerate => ?_⟩, fun turn kind => ⟨?_, fun tolerate => ?_⟩,
        fun data kind out => ?_, fun data tolerate kind => ?_⟩
      · subst kind
        refine (exec_answer_channel s c .lead q .accept w awake sent nofun).trans ?_
        rw [State.channelResult_lead _ c _ (by exact lead)]
        exact congrArg (fun u => Host.Outcome.next (State.settle u)) (State.leadDone_early ending' idle)
      · rw [refuses, State.channelResult_lead _ c _ (by exact lead), passes _ _ tolerate,
          State.leadDone_early ending'' (by exact idle), State.endedEarly_modCh]
        rfl
      · subst kind
        refine (exec_answer_channel s c .turn q .accept w awake sent nofun).trans ?_
        rw [State.channelResult_turn _ c _ (by exact turn)]
        exact congrArg (fun u => Host.Outcome.next (State.settle u))
          (State.boundary_early ending' idle fun u => u.startRepetition c)
      · rw [refuses, State.channelResult_turn _ c _ (by exact turn), passes _ _ tolerate,
          State.boundary_early ending'' (by exact idle), State.endedEarly_modCh]
        rfl
      · subst kind
        refine (exec_put_accepted s c q w awake data out sent).trans ?_
        exact congrArg (fun u => Host.Outcome.next (State.settle u)) (State.wordDone_early ending' idle true)
      · rw [refuses, State.channelResult_data _ c _ (by exact data), passes _ _ tolerate,
          State.wordDone_early ending'' (by exact idle), State.endedEarly_modCh]
        rfl
    · obtain ⟨ws', accessed, five⟩ := exec_accessEnded s c a ws i u ended
      have same : u.ch c = s.ch c ∧ (u.port c).outstanding = none ∧ u.hubState = s.hubState ∧
          u.rangeOk = s.rangeOk ∧ u.translate = s.translate := by
        rcases ended with ⟨n, t, r, _, _, _, _, _, rfl⟩ | ⟨_, _, _, rfl⟩
        · exact ⟨rfl, idle, rfl, rfl, rfl⟩
        · exact ⟨rfl, idle, rfl, rfl, rfl⟩
      obtain ⟨channel, free, hub, range, translate⟩ := same
      have ending' : u.endsBy c o := by
        unfold State.endsBy
        rw [channel, hub]
        exact ending
      rw [accessed]
      have closes (m : Channel → Channel) : u.endedEarly c o m =
          if (m (s.ch c)).run.portUsed then
            (u.modCh c fun ch => { (m ch).endingEarly o with state := .closing }).sends c .close (.close .abort)
          else
            (u.modCh c fun ch => { (m ch).endingEarly o with state := .writeback }).request c
              (postedSpace (m (s.ch c)).current)
              { addr := wordAddr (m (s.ch c)).run.descAddr 5, body := .write ((m (s.ch c)).endingEarly o).writebackWords } := by
        unfold State.endedEarly
        rw [channel]
      refine ⟨fun read lead => ?_, fun read data out => ?_, fun v write data inward => ?_, fun read loading => ?_⟩
      · rw [State.accessResult_lead u c ws' (by rw [channel]; exact lead), State.boundary_early ending' free, closes]
        rfl
      · rw [State.accessResult_output u c ws' (by rw [channel]; exact data) (by rw [channel]; exact out)]
        unfold State.decide
        rw [State.boundary_modCh ending' free _ rfl, closes]
        rfl
      · rw [State.accessResult_input u c ws' (by rw [channel]; exact data) (by rw [channel, inward]; exact nofun),
          State.wordDone_early ending' free true, closes]
        rfl
      · intro d poster format list buffer
        rw [State.accessResult_loading u c ws' (by rw [channel]; exact loading), five read,
          State.descriptorRead_good u c ws d rfl format (by rw [channel, range]; exact list)
            (by rw [channel, range]; exact buffer),
          State.boundary_modCh ending' free _ rfl, translate]
        refine congrArg (fun u => Host.Outcome.next (State.settle u)) ((State.endedEarly_congr u c o
          (m' := fun ch => { ch with run := { ch.run with
            snapshot := d, leadAddr := s.translate poster d.leadSpace d.w2,
            bufAddr := s.translate poster d.dataSpace d.w3 } }) ?_).trans (closes _))
        rw [channel]

end Sys2Proof.Machine
end

section
/-! PROOF. Entering quiesce (O44). -/

namespace Sys2Proof.Machine

/-! ### A change of condition for every channel -/

theorem State.forChans_eq_self (s : State) (f : Chan → State → State) (still : ∀ c, f c s = s) : s.forChans f = s := by
  unfold State.forChans
  induction allChans with
  | nil => rfl
  | cons x xs ih => rw [List.foldl_cons, still, ih]

/-- One channel alone is concerned, and the others are not concerned by what it does. -/
theorem State.forChans_eq_only (s u : State) (c : Chan) (f : Chan → State → State) (own : f c s = u)
    (before : ∀ x, x ≠ c → f x s = s) (after : ∀ x, x ≠ c → f x u = u) : s.forChans f = u := by
  have pastIt : ∀ l : List Chan, c ∉ l → l.foldl (fun s x => f x s) u = u := fun l => by
    induction l with
    | nil => exact fun _ => rfl
    | cons x xs ih =>
      intro absent
      obtain ⟨other, rest⟩ := List.ne_and_not_mem_of_not_mem_cons absent
      rw [List.foldl_cons, after x (Ne.symm other), ih rest]
  have upToIt : ∀ l : List Chan, l.Nodup → c ∈ l → l.foldl (fun s x => f x s) s = u := fun l => by
    induction l with
    | nil => exact fun _ => nofun
    | cons x xs ih =>
      intro distinct present
      rw [List.foldl_cons]
      by_cases here : x = c
      · rw [here, own]
        exact pastIt xs (here ▸ (List.nodup_cons.mp distinct).1)
      · rw [before x here]
        exact ih (List.nodup_cons.mp distinct).2 ((List.mem_cons.mp present).resolve_left (Ne.symm here))
  have every : ∀ x : Chan, x ∈ allChans := by decide
  exact upToIt allChans (by decide) (every c)

/-- Whether a channel waits for READY or paces depends only on its own parts and on the grant. -/
theorem State.reexamine_other_of_framed {s t : State} {c x : Chan} (framed : State.Framed c s t) (other : x ≠ c)
    (unwaiting : ¬ s.waitsForReady x) (unpaced : (s.ch x).state ≠ .pacing) : t.reexamine x = t := by
  refine State.reexamine_other t x ?_ (by rw [framed.ch x other]; exact unpaced)
  unfold State.waitsForReady State.wait State.channelOnPort State.storeWaits State.storeGrantedTo at *
  rw [framed.ch x other, framed.port x other, framed.mem x other, framed.storeReq x other, framed.granted]
  exact unwaiting

/-- Settles O44, by whether a channel waits. -/
theorem quiesceEndsTheWaitingRuns : Obligations.QuiesceEndsTheWaitingRuns := by
  intro s operational x listed
  have enters : exec x.1 s = .next (x.2.forChans fun c s => s.reexamine c).settle ∧ x.2.hubState = .quiescing ∧
      x.2.ch = s.ch ∧ x.2.waitsForReady = s.waitsForReady ∧ x.2.port = s.port := by
    simp only [List.mem_cons, List.not_mem_nil, or_false] at listed
    rcases listed with rfl | rfl
    · refine ⟨?_, rfl, rfl, rfl, rfl⟩
      exact (exec_hubCommand 2 rfl s (by rw [operational]; exact nofun)).trans
        (congrArg Host.Outcome.next (if_pos operational))
    · exact ⟨if_pos operational, rfl, rfl, rfl, rfl⟩
  obtain ⟨enters, quiescing, channels, waits, ports⟩ := enters
  generalize x.2 = t at enters quiescing channels waits ports ⊢
  rw [enters]
  refine ⟨fun nobody => ?_, fun c waiting others unstopped => ?_⟩
  · rw [State.forChans_eq_self t _ fun c => State.reexamine_other t c (by rw [waits]; exact (nobody c).1)
      (by rw [channels]; exact (nobody c).2)]
  intro ended
  have waiting' : t.waitsForReady c ∨ (t.ch c).state = .pacing := by
    rw [waits, channels]
    exact waiting
  have ends : t.endsBy c .quiesced := .inr ⟨by rw [channels]; exact unstopped, quiescing, rfl⟩
  have alone (idle : (s.ch c).run.portUsed = true → (s.port c).outstanding = none) :
      (t.forChans fun c s => s.reexamine c) = t.endedEarly c .quiesced id := by
    have own : t.reexamine c = t.endedEarly c .quiesced id := by
      have unchanged : t.modCh c id = t := State.modCh_id t c
      have early := t.reexamine_early c .quiesced id (by rw [unchanged]; exact waiting') (by rw [unchanged]; exact ends)
        (by rw [channels, ports]; exact idle)
      rw [unchanged] at early
      exact early
    refine State.forChans_eq_only t _ c _ own (fun y other => ?_) fun y other => ?_
    · exact State.reexamine_other t y (by rw [waits]; exact (others y other).1) (by rw [channels]; exact (others y other).2)
    · rw [← own]
      exact State.reexamine_other_of_framed (State.framed_reexamine t c) other (by rw [waits]; exact (others y other).1)
        (by rw [channels]; exact (others y other).2)
  have final (st : ChState) : { (t.ch c).endingEarly .quiesced with state := st } = ended st (t.ch c) := by
    have unstopped' : (t.ch c).stopPending = false := by rw [channels]; exact unstopped
    simp [Channel.endingEarly, ended, unstopped']
  refine ⟨fun used idle => ?_, fun unused => ?_⟩
  · rw [alone fun _ => idle]
    refine congrArg (fun u => Host.Outcome.next (State.settle u)) ((if_pos (by rw [channels]; exact used)).trans ?_)
    exact congrArg (fun u => State.sends u c _ _) (State.modCh_congr t c (final .closing))
  · have unused' : ¬ (s.ch c).run.portUsed = true := by rw [unused]; exact nofun
    rw [alone fun used => absurd used unused']
    refine congrArg (fun u => Host.Outcome.next (State.settle u)) ((if_neg (by rw [channels]; exact unused')).trans ?_)
    simp only [id, channels]
    refine State.requestWrite_congr t c _ _ (final .writeback) ?_
    rw [← channels]
    have words := congrArg Channel.writebackWords (final .writeback)
    exact words

end Sys2Proof.Machine
end

section
/-! PROOF. The step, moments of a write and an event, the writes to a log and the acknowledgement of a trap (O1, O42, O46, O48). -/

namespace Sys2Proof.Machine

/-- Settles O1, by the front of the queue. -/
theorem stepRunsTheFrontCommand : Obligations.StepRunsTheFrontCommand := by
  refine ⟨fun s c rest => rfl, fun s empty => ?_⟩
  unfold step
  rw [empty]

/-! ### Writes at an offset (R103, R184) -/

/-- A word write at the offset of a register, past INITIALISING. -/
theorem exec_registerWrite_reg (s : State) (d : Dom) (r : Reg) (off : Offset) (v : Word) (here : off = r.offset) :
    exec (.registerWrite d .word off v) s = .next (s.hostWrite d r fun u => u.writeReg d r v) := by
  subst here
  have acted : actedOn .word r.offset = true := by
    unfold actedOn
    rw [r.toNat_offset, r.offsetNat_mod_four]
    rfl
  have mapped : (fun u : State => u.writeOffset d r.offset v) = fun u => u.writeReg d r v := by
    funext u
    simp only [State.writeOffset, regAt_offset]
  refine congrArg Host.Outcome.next ?_
  unfold State.writeWindow State.hostWrite
  rw [if_neg (by rw [acted]; exact nofun), mapped]

/-- The offsets of a register in two spellings. -/
theorem offset_of_nat {r : Reg} {n : Nat} (here : r.offsetNat = n) : BitVec.ofNat 12 n = r.offset :=
  congrArg (BitVec.ofNat 12) here.symm

theorem Reg.setWidth_offset (r : Reg) : r.offset.setWidth 32 = BitVec.ofNat 32 r.offsetNat := by
  apply BitVec.eq_of_toNat_eq
  rw [BitVec.toNat_setWidth, r.toNat_offset, BitVec.toNat_ofNat]

/-- What a refused write to a register records (R105, R115). -/
theorem registerTrap_reg (d : Dom) (r : Reg) : registerTrap d r.offset =
    { kind := .registerAccess, domain := d, channel := groupChannel r.offset, offending := BitVec.ofNat 32 r.offsetNat,
      extent := 0 } := by
  unfold registerTrap
  rw [r.setWidth_offset]

/-! ### CH_PORT (R9, R17) -/

theorem State.isStray_answer (s : State) (c : Chan) (code : AnswerCode) (kind : BitVec 3) (seq : BitVec 8)
    (word : Option Word) : s.isStray c (.answer c code kind seq word) = true ↔
      ¬ ∃ t, (s.port c).outstanding = some t ∧ t.matchedBy code kind seq word = true := by
  unfold State.isStray
  cases sent : (s.port c).outstanding with
  | none => simp [sent]
  | some t => simp [sent]

/-- A stray answer is the only event of its moment that a step of the port's own meets. -/
theorem State.strayArrives_single (s : State) (c : Chan) (i : Instr) : s.strayArrives c [i] = s.isStray c i := by
  simp [State.strayArrives]

/-- Settles O42, by the Guard's decision and the answer's match. -/
theorem portWritesClearStrayOnly : Obligations.PortWritesClearStrayOnly := by
  intro s d c v off cleared
  have here : off = (Reg.ch c .port).offset := by
    refine offset_of_nat ?_
    simp only [Reg.offsetNat, ChReg.rel]
    omega
  have writes := exec_registerWrite_reg s d (.ch c .port) off v here
  have clears (u : State) (reaches : u.reachesChannel d c) :
      exec (.chPortStrayClear d c) u = .next (u.modPort c fun p => { p with stray := false }) :=
    exec_write_ch (x := .port) (v := 0x00080000) rfl u reaches
  refine ⟨fun reaches => ⟨clears s reaches, ?_⟩, fun past tenant foreign => ?_, fun code kind seq word => ?_⟩
  · rw [writes, s.hostWrite_ch d c _ _ reaches]
    rfl
  · have refused : s.grants d (Reg.offset (.ch c .port)) = false := by
      rw [grants_ch]
      simp [tenant, foreign]
    have trap : s.recordTrap (registerTrap d (Reg.offset (.ch c .port))) = s.recordTrap
        { kind := .registerAccess, domain := d, channel := some c, offending := off.setWidth 32, extent := 0 } := by
      rw [here]
      unfold registerTrap
      rw [groupChannel_ch]
    refine ⟨(exec_of_write rfl s).trans (congrArg Host.Outcome.next ?_), writes.trans (congrArg Host.Outcome.next ?_)⟩
    · exact (s.hostWrite_violation d _ _ past refused).trans trap
    · exact (s.hostWrite_violation d _ _ past refused).trans trap
  · intro answer write matching is listed
    have order := s.inOrder_step_access answer write rfl rfl
    have left := s.moment_step_access answer write rfl rfl rfl rfl rfl rfl
    have both : s.inOrder is = [answer, write] ∧
        s.moment is = s.afterAccess (s.takeCounted answer).settle [answer] write := by
      simp only [List.mem_cons, List.not_mem_nil, or_false] at listed
      rcases listed with rfl | rfl
      · exact ⟨order.1, left.1⟩
      · exact ⟨order.2, left.2⟩
    obtain ⟨ordered, leaves⟩ := both
    refine ⟨ordered, fun unmatched awake => ?_, fun matched => ?_⟩
    · intro settled
      have stray : s.isStray c answer = true := (s.isStray_answer c code kind seq word).mpr unmatched
      have taken : (s.takeCounted answer).settle = settled :=
        congrArg State.settle (s.takeCounted_stray c code kind seq word awake stray)
      have set : (settled.port c).stray = true := by
        rw [State.port_settle, State.port_modPort_same]
      have arrives : s.strayArrives c [answer] = true := (s.strayArrives_single c answer).trans stray
      rw [leaves, taken]
      refine ⟨s.afterAccess_strayPrevails settled d c [answer] arrives set, fun reaches => ?_⟩
      have cleared : settled.afterCommand write = settled.modPort c fun p => { p with stray := false } := by
        unfold State.afterCommand
        rw [clears settled reaches]
      refine (if_pos (by rw [arrives, set]; rfl)).trans ?_
      rw [cleared]
      exact settled.strayAnswer_cleared c set
    · intro settled reaches
      have calm : s.strayArrives c [answer] = false := by
        rw [s.strayArrives_single c answer, Bool.eq_false_iff]
        exact fun stray => (s.isStray_answer c code kind seq word).mp stray matched
      rw [leaves, s.afterAccess_noStray settled d c [answer] calm]
      unfold State.afterCommand
      rw [clears settled reaches]

/-! ### GRD_TRAP_ACK (R117) -/

theorem State.recordTrap_eq (s : State) (t : Trap) : s.recordTrap t =
    if s.trap = none then { s with trap := some t, lost := 0 }
    else { s with lost := if s.lost = 255 then 255 else s.lost + 1 } := by
  unfold State.recordTrap
  cases slot : s.trap with
  | none => rfl
  | some _ => rw [satInc_8]; rfl

/-- Settles O48, by the trap slot and the writing domain. -/
theorem trapAckEmptiesTheSlot : Obligations.TrapAckEmptiesTheSlot := by
  intro s past
  have acks : exec (.grdTrapAck 0) s = .next s.ackTrap := exec_write_hub (r := .trapAck) (v := 0) rfl s past rfl
  refine ⟨fun t full => ⟨{ s with trap := none, lost := 0 }, ?_, rfl, fun w => rfl, fun x => ⟨rfl, rfl⟩⟩, fun v => ?_,
    fun empty => ?_, fun d tenant => ?_, fun i event => ?_, rfl⟩
  · rw [acks]
    unfold State.ackTrap
    rw [full]
  · rw [exec_registerWrite_reg s 0 .trapAck 0x160 v rfl, s.hostWrite_hub 0 .trapAck _ ⟨past, rfl⟩ rfl]
    exact acks.symm
  · rw [acks]
    unfold State.ackTrap
    rw [empty]
  · have refused : s.grants d Reg.trapAck.offset = false := by
      rw [grants_supervisor s d .trapAck rfl]
      exact beq_eq_false_iff_ne.mpr tenant
    rw [exec_of_write (d := d) (r := .trapAck) (v := 0) rfl s, s.hostWrite_violation d .trapAck _ past refused,
      registerTrap_reg]
    rfl
  · exact s.inOrder_step_access i (.grdTrapAck 0) event rfl

/-! ### The sources (R159, R165) -/

theorem flag_getLsbD (b : Bool) : (flag b).getLsbD 0 = b := by cases b <;> rfl

/-- The source in each bit (R159). -/
theorem State.sources_getLsbD (s : State) :
    s.sources.getLsbD 0 = s.trap.isSome ∧ s.sources.getLsbD 1 = (s.hubState == .quiesced) ∧
    s.sources.getLsbD 2 = s.events.screen ∧ s.sources.getLsbD 3 = s.events.direct ∧
    (∀ d : Dom, s.sources.getLsbD (4 + d.val) = (s.log d).source) ∧
    ∀ c : Chan, s.sources.getLsbD (8 + c.val) = s.events.channels[c] := by
  unfold State.sources
  refine ⟨?_, ?_, ?_, ?_, fun d => ?_, fun c => ?_⟩
  · refine BitVec.getLsbD_append.trans ?_
    simp only [flag_getLsbD, Nat.zero_lt_one, if_true]
  · refine BitVec.getLsbD_append.trans ?_
    simp only [BitVec.getLsbD_append, flag_getLsbD, Nat.reduceSub, Nat.reduceLT, if_true, if_false]
  · refine BitVec.getLsbD_append.trans ?_
    simp only [BitVec.getLsbD_append, flag_getLsbD, Nat.reduceSub, Nat.reduceLT, if_true, if_false]
  · refine BitVec.getLsbD_append.trans ?_
    simp only [BitVec.getLsbD_append, flag_getLsbD, Nat.reduceSub, Nat.reduceLT, if_true, if_false]
  · refine BitVec.getLsbD_append.trans ?_
    simp only [BitVec.getLsbD_append]
    fin_cases d <;> exact flag_getLsbD _
  · refine BitVec.getLsbD_append.trans ?_
    simp only [BitVec.getLsbD_append]
    fin_cases c <;> exact flag_getLsbD _
theorem Log.source_iff (l : Log) : l.source = true ↔ l.threshold ≠ 0 ∧ l.threshold.toNat ≤ l.records.length := by
  unfold Log.source
  rw [Bool.and_eq_true, bne_iff_ne, decide_eq_true_iff]

/-! ### LOG_POP and LOG_THRESHOLD (R95, R99) -/

theorem State.popLog_empty (s : State) (l : Dom) (empty : (s.log l).records = []) : s.popLog l = s := by
  unfold State.popLog
  rw [empty]

theorem State.popLog_unwaited (s : State) (l : Dom) (r : Record) (rest : List Record) (head : (s.log l).records = r :: rest)
    (unwaited : (s.log l).waiting = []) : s.popLog l = s.modLog l fun x => { x with records := rest } := by
  unfold State.popLog
  simp only [head, unwaited]

theorem State.popLog_waited (s : State) (l : Dom) (r held : Record) (rest : List Record) (c : Chan) (others : List Chan)
    (head : (s.log l).records = r :: rest) (waited : (s.log l).waiting = c :: others) (holds : (s.ch c).held = some held) :
    s.popLog l = State.afterAccepted ((s.modLog l fun x => { x with records := rest ++ [held], waiting := others }).modCh c
      fun ch => { ch with held := none }) c := by
  unfold State.popLog
  simp only [head, waited, holds]

/-- The channel out of LOGGING, in the state that its records call for (R62, R81). -/
def Channel.outOfLogging (ch : Channel) : Channel :=
  { ch with state := if ch.afterLogging = .idle then .idle else .halted, held := none }

theorem State.leaveLogging_eq (s : State) (c : Chan) : s.leaveLogging c =
    if (s.ch c).afterLogging = .halt then (s.modCh c Channel.outOfLogging).latchChannel c
    else s.modCh c Channel.outOfLogging := by
  have out (st : ChState) (called : (if (s.ch c).afterLogging = .idle then ChState.idle else .halted) = st) :
      (s.modCh c fun ch => { ch with state := st, held := none }) = s.modCh c Channel.outOfLogging :=
    State.modCh_congr s c (by rw [Channel.outOfLogging, called])
  unfold State.leaveLogging
  cases after : (s.ch c).afterLogging with
  | idle => exact out .idle (by rw [after]; rfl)
  | halt => exact congrArg (fun u => State.latchChannel u c) (out .halted (by rw [after]; rfl))
  | backToHalted => exact out .halted (by rw [after]; rfl)

/-- A FLUSHED record for which its log has no room is held (R92). -/
theorem State.produceFlushed_full (s : State) (c : Chan) (full : ¬ (s.log (s.ch c).domain).records.length < 16) :
    s.produceFlushed c = (s.modLog (s.ch c).domain fun l => { l with waiting := l.waiting ++ [c] }).modCh c fun ch =>
      { ch with state := .logging, held := some (flushedRecord c (s.ch c).flushCount), flushCount := 0 } := by
  have noRoom : (s.log (s.ch c).domain).hasRoom = false := decide_eq_false full
  unfold State.produceFlushed State.offerFlushed State.holdRecord
  simp only [State.ch_modCh_same, State.log_modCh, noRoom, Bool.false_eq_true, if_false, State.modLog_modCh, State.modCh_modCh]

/-- Settles O46, by the head record, the waiting list and the flush count of the channel at its head. -/
theorem logWritesActOnTheirLog : Obligations.LogWritesActOnTheirLog := by
  refine ⟨fun s d l reaches => ?_, fun s d l v reaches => ⟨fun small => ?_, fun large => ?_⟩⟩
  · have pops : exec (.logPop d l) s = .next (s.popLog l).settle := exec_write_log (x := .pop) (v := 0) rfl s reaches
    rw [pops]
    refine ⟨fun empty => ?_, fun r rest head => ⟨fun unwaited => ?_, fun c others held waited holds unflushed => ?_,
      fun c others held waited holds pending domain fifteen => ?_⟩⟩
    · rw [s.popLog_empty l empty]
    · rw [s.popLog_unwaited l r rest head unwaited]
    · intro admitted
      rw [s.popLog_waited l r held rest c others head waited holds]
      unfold State.afterAccepted
      rw [if_pos (by rw [State.ch_modCh_same]; exact unflushed), State.leaveLogging_eq, State.ch_modCh_same, State.modCh_modCh]
      rfl
    · intro flushed
      rw [s.popLog_waited l r held rest c others head waited holds]
      unfold State.afterAccepted
      rw [if_neg (by rw [State.ch_modCh_same]; exact pending), State.modCh_modCh]
      have full : ((s.modLog l fun x => { x with records := rest ++ [held], waiting := others }).log l).records.length = 16 := by
        rw [State.log_modLog_same]
        simp [fifteen]
      rw [State.produceFlushed_full _ c (by rw [State.ch_modCh_same]; simp only [State.ch_modLog, domain, State.log_modCh, full]; omega)]
      rw [State.ch_modCh_same]
      simp only [State.ch_modLog, domain, State.modLog_modCh, State.modLog_modLog, State.modCh_modCh]
      rfl
  · have writes := exec_write_log (i := .logThresholdWrite d l v) (x := .threshold) (v := v) rfl s reaches
    have same : (v.setWidth 5).toNat = v.toNat := by
      rw [BitVec.toNat_setWidth]
      omega
    refine ⟨_, writes.trans (congrArg Host.Outcome.next (if_pos small)), by rw [BitVec.setWidth_eq_extractLsb' (by decide)], ?_, ?_⟩
    · simp only [State.readReg, State.readLog, State.log_modLog_same]
      apply BitVec.eq_of_toNat_eq
      rw [BitVec.toNat_setWidth, same]
      exact Nat.mod_eq_of_lt v.isLt
    · obtain ⟨-, -, -, -, logs, -⟩ := State.sources_getLsbD (s.modLog l fun x => { x with threshold := v.setWidth 5 })
      rw [logs l, Log.source_iff, State.log_modLog_same, same, ne_eq, ne_eq, ← BitVec.toNat_inj, same]
      simp only [← BitVec.toNat_inj (y := (0 : Word))]
      rfl
  · have writes := exec_write_log (i := .logThresholdWrite d l v) (x := .threshold) (v := v) rfl s reaches
    exact writes.trans (congrArg Host.Outcome.next (if_neg (by omega)))

end Sys2Proof.Machine
end

section
/-! PROOF. Violations, writes to single registers and the event lines (O49 to O51). -/

namespace Sys2Proof.Machine

/-! ### Violations (R103 to R106, R116) -/

/-- A register of a region reserved to domain 0 lies in no channel's group. -/
theorem groupChannel_of_supervisorOnly {r : Reg} (only : r.supervisorOnly = true) : groupChannel r.offset = none := by
  cases r with
  | id | ch _ _ | log _ _ => cases only
  | hostBase t | hostSize t | stageBase t | stageSize t | trapSlot t => revert t; decide
  | screen k w => revert k w; decide
  | _ => decide

/-- A row that spells a register write meets the Guard's decision on that register. -/
theorem exec_violation {i : Instr} {d : Dom} {r : Reg} {v : Word} (spelled : writeOf i = some (d, r, v)) (s : State)
    (past : s.hubState ≠ .initialising) (refused : s.grants d r.offset = false) :
    exec i s = .next (s.recordTrap
      { kind := .registerAccess, domain := d, channel := groupChannel r.offset, offending := BitVec.ofNat 32 r.offsetNat,
        extent := 0 }) := by
  rw [exec_of_write spelled, s.hostWrite_violation d r _ past refused, registerTrap_reg]

/-- The row spells a write of the domain to a register at the offset that has the property. -/
def spellsAt (d : Dom) (P : Reg → Prop) (i : Instr) (off : Nat) : Prop :=
  ∃ r v, writeOf i = some (d, r, v) ∧ r.offsetNat = off ∧ P r

theorem exec_spelled_initialising {d : Dom} {P : Reg → Prop} {i : Instr} {off : Nat} (spells : spellsAt d P i off) (s : State)
    (initialising : s.hubState = .initialising) : exec i s = .next s := by
  obtain ⟨r, v, spelled, -, -⟩ := spells
  rw [exec_of_write spelled, s.hostWrite_initialising d r _ initialising]

theorem exec_spelled_violation {d : Dom} {P : Reg → Prop} {i : Instr} {off : Nat} (spells : spellsAt d P i off) (s : State)
    (past : s.hubState ≠ .initialising) (c : Option Chan)
    (refused : ∀ r, P r → s.grants d r.offset = false ∧ groupChannel r.offset = c) :
    exec i s = .next (s.recordTrap
      { kind := .registerAccess, domain := d, channel := c, offending := BitVec.ofNat 32 off, extent := 0 }) := by
  obtain ⟨r, v, spelled, here, has⟩ := spells
  obtain ⟨refused, group⟩ := refused r has
  rw [exec_violation spelled s past refused, group, here]

/-- What the Guard makes of an access that it refuses. -/
theorem State.verdict_violation (s : State) (d : Dom) (off : Offset) (past : s.hubState ≠ .initialising)
    (refused : s.grants d off = false) : s.verdict d off = .violation := by
  unfold State.verdict
  rw [if_neg past, if_neg (by rw [refused]; exact nofun)]

/-- Settles O49, by the row and the Guard's decision. -/
theorem violationsOnlyFillTheTrapSlot : Obligations.ViolationsOnlyFillTheTrapSlot := by
  refine ⟨State.recordTrap_eq, fun s d c p l v last code k e => ?_, fun s d off a past tenant aligned refused => ?_,
    fun s d size off v initialising => ?_⟩
  · intro channelWrites logWrites hubWrites
    have channel : ∀ x ∈ channelWrites, spellsAt d (fun r => ∃ y, r = .ch c y) x.1 (x.2 + 0x80 * c.val) := by
      have command (i : Instr) (w : Word) (spelled : writeOf i = some (d, .ch c .command, w)) :
          spellsAt d (fun r => ∃ y, r = .ch c y) i (0x400 + 0x80 * c.val) := ⟨_, w, spelled, rfl, _, rfl⟩
      simp only [channelWrites, List.forall_mem_cons]
      exact ⟨⟨_, v, rfl, by simp only [Reg.offsetNat, ChReg.rel]; omega, .post, rfl⟩, command _ 1 rfl, command _ 2 rfl,
        command _ 3 rfl, command _ 4 rfl, command _ 5 rfl, command _ 6 rfl, command _ 7 rfl, command _ v rfl,
        ⟨_, _, rfl, by simp only [Reg.offsetNat, ChReg.rel]; omega, .port, rfl⟩, nofun⟩
    have log : ∀ x ∈ logWrites, spellsAt d (fun r => ∃ y, r = .log l y) x.1 (x.2 + 0x40 * l.val) := by
      simp only [logWrites, List.forall_mem_cons]
      exact ⟨⟨_, _, rfl, by simp only [Reg.offsetNat, LogReg.rel]; omega, .pop, rfl⟩,
        ⟨_, _, rfl, by simp only [Reg.offsetNat, LogReg.rel]; omega, .threshold, rfl⟩, nofun⟩
    have hub : ∀ x ∈ hubWrites, spellsAt d (fun r => r.supervisorOnly = true) x.1 x.2 := by
      have hit : spellsAt d (fun r => r.supervisorOnly = true) (.scrHitsClear d e) (0x30C + 0x10 * e.val) :=
        ⟨_, _, rfl, by simp only [Reg.offsetNat]; omega, rfl⟩
      simp only [hubWrites, List.forall_mem_cons]
      exact ⟨⟨_, _, rfl, rfl, rfl⟩, ⟨_, _, rfl, rfl, rfl⟩, ⟨_, _, rfl, rfl, rfl⟩, ⟨_, _, rfl, rfl, rfl⟩, ⟨_, _, rfl, rfl, rfl⟩,
        ⟨_, _, rfl, rfl, rfl⟩, hit, ⟨_, _, rfl, rfl, rfl⟩, ⟨_, _, rfl, rfl, rfl⟩, ⟨_, _, rfl, rfl, rfl⟩, ⟨_, _, rfl, rfl, rfl⟩,
        ⟨_, _, rfl, rfl, rfl⟩, ⟨_, _, rfl, rfl, rfl⟩, ⟨_, _, rfl, rfl, rfl⟩, ⟨_, _, rfl, rfl, rfl⟩, nofun⟩
    refine ⟨fun initialising x listed => ?_, fun past tenant => ?_⟩
    · rcases List.mem_append.mp listed with listed | listed
      · rcases List.mem_append.mp listed with listed | listed
        · exact exec_spelled_initialising (channel x listed) s initialising
        · exact exec_spelled_initialising (log x listed) s initialising
      · exact exec_spelled_initialising (hub x listed) s initialising
    · intro trapped
      refine ⟨fun foreign x listed => ?_, fun other x listed => ?_, fun x listed => ?_, fun own i listed => ?_⟩
      · refine exec_spelled_violation (channel x listed) s past (some c) ?_
        rintro r ⟨y, rfl⟩
        exact ⟨by rw [grants_ch]; simp [tenant, foreign], groupChannel_ch c y⟩
      · refine exec_spelled_violation (log x listed) s past none ?_
        rintro r ⟨y, rfl⟩
        exact ⟨by rw [grants_log]; simp [tenant, Ne.symm other], groupChannel_log l y⟩
      · refine exec_spelled_violation (hub x listed) s past none fun r only => ?_
        exact ⟨by rw [grants_supervisor s d r only]; simp [tenant], groupChannel_of_supervisorOnly only⟩
      · have reaches : s.reachesChannel d c := ⟨past, .inr own⟩
        have refuses : s.refusePrivilege d c = (s.modCh c fun ch => { ch with lastCmd := .rejectedPrivilege }).recordTrap
            { kind := .commandPrivilege, domain := d, channel := some c,
              offending := BitVec.ofNat 32 (0x400 + 0x80 * c.val), extent := 0 } := by
          unfold State.refusePrivilege privilegeTrap
          rw [Reg.setWidth_offset]
          rfl
        simp only [List.mem_cons, List.not_mem_nil, or_false] at listed
        rcases listed with rfl | rfl
        · exact (exec_chCommand 6 rfl s reaches).trans (congrArg Host.Outcome.next ((if_pos tenant).trans refuses))
        · exact (exec_chCommand 7 rfl s reaches).trans (congrArg Host.Outcome.next ((if_pos tenant).trans refuses))
  · have acted : actedOn .word off = true := by
      unfold actedOn
      rw [aligned]
      rfl
    have verdict := s.verdict_violation d off past refused
    have written (v : Word) : s.writeWindow d .word off v = s.recordTrap (registerTrap d off) := by
      unfold State.writeWindow State.guarded
      rw [if_neg (by rw [acted]; exact nofun), verdict]
    intro trapped
    refine ⟨?_, fun v => congrArg Host.Outcome.next (written v)⟩
    cases a with
    | write v => exact congrArg Host.Outcome.next (written v)
    | read =>
      have read : s.readWindow d .word off = 0 := by
        unfold State.readWindow
        rw [if_neg (by rw [acted]; exact nofun), verdict]
      have recorded : s.guarded d off (fun u => u) = trapped := by
        unfold State.guarded
        rw [verdict]
        rfl
      change Host.Outcome.next (State.emit (if actedOn .word off then s.guarded d off fun u => u else s)
        (.hostResponse d (s.readWindow d .word off) false)) = _
      rw [if_pos acted, read, recorded]
  · refine congrArg Host.Outcome.next ?_
    unfold State.writeWindow State.guarded State.verdict
    rw [if_pos initialising]
    exact ite_self s

/-! ### Writes to single registers (R184, R185, R187) -/

/-- Domain 0 writes a register at its offset. -/
theorem exec_supervisorWrite (s : State) (past : s.hubState ≠ .initialising) (r : Reg) (n : Nat) (v : Word)
    (here : r.offsetNat = n) : exec (.registerWrite 0 .word (BitVec.ofNat 12 n) v) s = .next (s.writeReg 0 r v) := by
  rw [exec_registerWrite_reg s 0 r _ v (offset_of_nat here), s.hostWrite_granted 0 r _ past rfl]

/-- A write at an offset where no register lies, or one that is only read, changes nothing. -/
theorem State.writeWindow_same (s : State) (past : s.hubState ≠ .initialising) (off : Offset) (v : Word)
    (same : s.writeOffset 0 off v = s) : s.writeWindow 0 .word off v = s := by
  have permitted : s.verdict 0 off = .permitted := by
    unfold State.verdict
    rw [if_neg past]
    rfl
  unfold State.writeWindow State.guarded
  rw [permitted]
  simp only [same, ite_self]

/-- A register that is only read ignores a write. -/
theorem State.writeReg_readOnly (s : State) (r : Reg) (v : Word)
    (only : match r with
      | .id | .hubStatus | .trapSlot _ | .evcRaw | .evcPending | .evcIdentAlert | .evcIdentNotice | .lastHit
      | .dirStatus | .dirWordIn | .ch _ .status | .ch _ .postStatus | .ch _ .progress | .ch _ .current
      | .log _ .count | .log _ (.head _) => True
      | _ => False) : s.writeReg 0 r v = s := by
  cases r with
  | ch c x =>
    cases x with
    | status | postStatus | progress | current => rfl
    | command | post | config | port => exact only.elim
  | log l x =>
    cases x with
    | count | head _ => rfl
    | threshold | pop => exact only.elim
  | id | hubStatus | trapSlot _ | evcRaw | evcPending | evcIdentAlert | evcIdentNotice | lastHit | dirStatus | dirWordIn => rfl
  | hubCommand | tickDivider | memTimeout | hostBase _ | hostSize _ | stageBase _ | stageSize _ | assign | trapAck | evcClear
  | evcEnable | evcRoute | evcWakeEnable | screen _ _ | dirCommand | dirWordOut => exact only.elim

/-- Settles O50, by the register. -/
theorem registerWritesSetTheirFields : Obligations.RegisterWritesSetTheirFields := by
  refine ⟨fun s reaches => ⟨fun k => ?_, fun v => ?_⟩, fun s d c v reaches => ?_, fun s v reaches => ?_⟩
  · exact exec_write_hub (r := .screen k 3) (v := 0) rfl s reaches.1 rfl
  · refine ⟨_, exec_write_hub (r := .evcClear) (v := v) rfl s reaches.1 rfl, ?_, ?_, fun c => ?_, rfl, rfl, rfl⟩
    · simp
    · simp
    · simp
  · rw [exec_registerWrite_reg s d (.ch c .config) _ v (offset_of_nat ?_), s.hostWrite_ch d c _ _ reaches]
    · rfl
    · simp only [Reg.offsetNat, ChReg.rel]; omega
  · have writes := exec_supervisorWrite s reaches.1
    intro written
    refine ⟨writes .tickDivider _ v rfl, writes .memTimeout _ v rfl, fun t => ⟨writes (.hostBase t) _ v rfl,
      writes (.hostSize t) _ v rfl, writes (.stageBase t) _ v rfl, writes (.stageSize t) _ v rfl⟩, writes .evcEnable _ v rfl,
      writes .evcRoute _ v rfl, writes .evcWakeEnable _ v rfl, fun k => ⟨writes (.screen k 0) _ v rfl,
      writes (.screen k 1) _ v (by simp only [Reg.offsetNat]; omega),
      writes (.screen k 2) _ v (by simp only [Reg.offsetNat]; omega)⟩, writes .dirWordOut _ v rfl, fun off only => ?_,
      fun size off other d => ?_⟩
    · refine congrArg Host.Outcome.next (s.writeWindow_same reaches.1 off v ?_)
      unfold State.writeOffset
      cases found : regAt off with
      | none => rfl
      | some r =>
        rw [found] at only
        exact s.writeReg_readOnly r v only
    · have unacted : actedOn size off = false := by
        unfold actedOn
        rcases other with size | misaligned
        · rw [beq_eq_false_iff_ne.mpr size]; rfl
        · rw [beq_eq_false_iff_ne.mpr misaligned]; exact Bool.and_false _
      exact congrArg Host.Outcome.next (if_pos unacted)

/-! ### The event lines (R159, R165 to R169) -/

theorem ne_zero_iff_exists_bit {w : Nat} (x : BitVec w) : x ≠ 0 ↔ ∃ n < w, x.getLsbD n = true := by
  constructor
  · intro nonzero
    by_contra none
    refine nonzero (BitVec.eq_of_getLsbD_eq fun n low => ?_)
    have clear : x.getLsbD n = false := Bool.eq_false_iff.mpr fun set => none ⟨n, low, set⟩
    rw [clear]
    exact BitVec.getLsbD_zero.symm
  · rintro ⟨n, -, set⟩ rfl
    rw [BitVec.ofNat_eq_ofNat, BitVec.getLsbD_zero] at set
    cases set

/-- Settles O51, by the bits of the sources. -/
theorem linesFollowTheirSources : Obligations.LinesFollowTheirSources := by
  intro s raw drives
  have bit (n : Nat) (low : n < 16) : raw.getLsbD n = s.sources.getLsbD n := by
    have inWord : n < 32 := by omega
    change (s.sources.setWidth 32).getLsbD n = _
    rw [BitVec.getLsbD_setWidth, decide_eq_true inWord, Bool.true_and]
  have driven (line : BitVec 2) (n : Nat) (low : n < 16) : s.drives line n = true ↔ drives line n := by
    unfold State.drives Events.routeOf
    rw [Bool.and_eq_true, Bool.and_eq_true, beq_iff_eq, ← bit n low, and_assoc]
  have line (l : BitVec 2) : ((s.driver l).isSome = true ↔ ∃ n < 16, drives l n) ∧
      ((s.driver l).isSome = false → identWord (s.driver l) = 0) ∧
      ∀ n < 16, drives l n → (∀ m < n, ¬ drives l m) → identWord (s.driver l) = 0x80000000 ||| BitVec.ofNat 32 n := by
    refine ⟨?_, fun none => ?_, fun n low drivesIt first => ?_⟩
    · unfold State.driver
      rw [List.find?_isSome]
      exact exists_congr fun n => by rw [List.mem_range]; exact and_congr_right fun low => driven l n low
    · rw [Option.isSome_eq_false_iff, Option.isNone_iff_eq_none] at none
      rw [none]
      rfl
    · have found : s.driver l = some n := by
        unfold State.driver
        rw [List.find?_range_eq_some]
        refine ⟨(driven l n low).mpr drivesIt, List.mem_range.mpr low, fun m below => ?_⟩
        rw [Bool.not_eq_true', Bool.eq_false_iff]
        exact fun drivesIt => first m below ((driven l m (by omega)).mp drivesIt)
      rw [found]
      clear found first drivesIt
      interval_cases n <;> rfl
  obtain ⟨trap, quiet, screen, direct, logs, channels⟩ := s.sources_getLsbD
  refine ⟨⟨rfl, ?_, ?_, ?_, ?_, ?_, fun d => ?_, fun c => ?_⟩, fun x listed => ?_, ?_, ?_⟩
  · apply BitVec.eq_of_getLsbD_eq
    intro i low
    change ((s.sources.setWidth 32).extractLsb' 16 16).getLsbD i = _
    rw [BitVec.getLsbD_extractLsb', BitVec.getLsbD_setWidth, BitVec.getLsbD_of_ge s.sources _ (by omega), Bool.and_false,
      Bool.and_false]
    exact BitVec.getLsbD_zero.symm
  · rw [bit 0 (by decide), trap, Option.isSome_iff_ne_none]
  · rw [bit 1 (by decide), quiet, beq_iff_eq]
  · rw [bit 2 (by decide), screen]
  · rw [bit 3 (by decide), direct]
  · rw [bit _ (by omega), logs d, Log.source_iff]
  · rw [bit _ (by omega), channels c]
  · simp only [List.mem_cons, List.not_mem_nil, or_false] at listed
    rcases listed with rfl | rfl
    · exact line 1
    · exact line 2
  · unfold State.wake
    rw [bne_iff_ne, ne_zero_iff_exists_bit]
    refine exists_congr fun n => and_congr_right fun low => ?_
    rw [BitVec.getLsbD_and, Bool.and_eq_true, bit n low]
  · exact beq_iff_eq

end Sys2Proof.Machine
end

section
/-! PROOF. The fields of result words, records and registers, and what a read answers (O35). -/

namespace Sys2Proof.Machine

/-! ### Fields of a word that is put together by appending

The width of the whole is left open in the patterns, so that they meet words whose width is written as a numeral. -/

theorem field_append {a b : Nat} (hi : BitVec a) (lo : BitVec b) (start len : Nat)
    (inside : start + len ≤ b ∨ b ≤ start) :
    BitVec.extractLsb' (n := no_index (a + b)) start len (hi ++ lo) =
      if b ≤ start then hi.extractLsb' (start - b) len else lo.extractLsb' start len := by
  by_cases above : b ≤ start
  · rw [if_pos above]
    exact append_extract_high hi lo start len above
  · rw [if_neg above]
    exact append_extract_low hi lo start len (by omega)

theorem bit_append {a b : Nat} (hi : BitVec a) (lo : BitVec b) (i : Nat) :
    BitVec.getLsbD (w := no_index (a + b)) (hi ++ lo) i = if b ≤ i then hi.getLsbD (i - b) else lo.getLsbD i := by
  by_cases above : b ≤ i
  · rw [if_pos above]
    exact append_getLsbD_high hi lo i above
  · rw [if_neg above]
    exact append_getLsbD_low hi lo i (by omega)

theorem field_all {w : Nat} (x : BitVec w) : x.extractLsb' 0 w = x := by
  rw [← BitVec.setWidth_eq_extractLsb' le_rfl, BitVec.setWidth_eq]

/-- A channel, or an entry of the screen, in three bits. -/
theorem toNat_ofNat_three (x : Fin 8) : (BitVec.ofNat 3 x.val).toNat = x.val := by
  rw [BitVec.toNat_ofNat]
  exact Nat.mod_eq_of_lt x.isLt

/-- A domain in two bits. -/
theorem toNat_ofNat_two (x : Fin 4) : (BitVec.ofNat 2 x.val).toNat = x.val := by
  rw [BitVec.toNat_ofNat]
  exact Nat.mod_eq_of_lt x.isLt

/-! ### The words of the write-back and of a record (sections 2.2 and 5.1) -/

theorem zero_getLsbD {w : Nat} (i : Nat) : (0 : BitVec w).getLsbD i = false := BitVec.getLsbD_zero

theorem Flags.byte_bits (f : Flags) :
    f.byte.getLsbD 0 = f.statusPresent ∧ f.byte.getLsbD 1 = f.screenMatch ∧ f.byte.getLsbD 2 = f.closeUnanswered ∧
    f.byte.getLsbD 3 = f.writebackFailed ∧ f.byte.getLsbD 4 = f.halted ∧ f.byte.getLsbD 5 = f.hailEnd ∧
    f.byte.getLsbD 6 = f.stopAlso ∧ f.byte.getLsbD 7 = f.repsSaturated := by
  simp only [Flags.byte, bit_append, Nat.reduceLeDiff, Nat.reduceSub, if_true, if_false, flag_getLsbD, and_self]

theorem secondByte_bits (w : Word) : (List.range 8).map (fun i => w.getLsbD (8 + i)) =
    [w.getLsbD 8, w.getLsbD 9, w.getLsbD 10, w.getLsbD 11, w.getLsbD 12, w.getLsbD 13, w.getLsbD 14, w.getLsbD 15] := rfl

theorem Run.word5_fields (r : Run) (o : RunOutcome) (outcome : r.outcome = some o) :
    r.word5.extractLsb' 0 8 = o.code ∧
    (List.range 8).map (fun i => r.word5.getLsbD (8 + i)) =
      [r.flags.statusPresent, r.flags.screenMatch, r.flags.closeUnanswered, false, r.flags.halted, r.flags.hailEnd,
        r.flags.stopAlso, r.flags.repsSaturated] ∧
    r.word5.extractLsb' 16 3 = r.leadsDone ∧ (r.word5.extractLsb' 19 3).toNat = r.screenIndex.val ∧
    r.word5.extractLsb' 22 2 = 0 ∧ r.word5.extractLsb' 24 8 = r.refusals := by
  rw [secondByte_bits]
  simp (disch := decide) only [Run.word5, Run.outcomeCode, outcome, Flags.byte_bits, field_append, bit_append,
    Nat.reduceLeDiff, Nat.reduceSub, if_true, if_false, field_all, toNat_ofNat_three, and_self]

theorem Channel.word6_fields (ch : Channel) :
    ch.word6.extractLsb' 0 16 = ch.words ∧ ch.word6.extractLsb' 16 16 = ch.reps := by
  simp (disch := decide) only [Channel.word6, field_append, Nat.reduceLeDiff, Nat.reduceSub, if_true, if_false, field_all,
    and_self]

theorem Record.word_fields (r : Record) :
    (r.word 0).extractLsb' 0 8 = r.outcome.code ∧
    (List.range 8).map (fun i => (r.word 0).getLsbD (8 + i)) =
      [r.flags.statusPresent, r.flags.screenMatch, r.flags.closeUnanswered, r.flags.writebackFailed, r.flags.halted,
        r.flags.hailEnd, r.flags.stopAlso, r.flags.repsSaturated] ∧
    ((r.word 0).extractLsb' 16 3).toNat = r.channel.val ∧ ((r.word 0).extractLsb' 19 3).toNat = r.screenIndex.val ∧
    (r.word 0).extractLsb' 22 3 = r.step.code ∧ (r.word 0).extractLsb' 25 6 = 0 ∧ (r.word 0).getLsbD 31 = true ∧
    (r.word 1).extractLsb' 0 16 = r.reps ∧ (r.word 1).extractLsb' 16 16 = r.tag ∧
    (r.word 2).extractLsb' 0 16 = r.words ∧ (r.word 2).extractLsb' 16 3 = r.leadsDone ∧
    (r.word 2).extractLsb' 19 5 = 0 ∧ (r.word 2).extractLsb' 24 8 = r.refusals ∧
    r.word 3 = r.status ∧ r.word 4 = r.faultAddr ∧ r.word 5 = r.descriptor := by
  rw [secondByte_bits]
  simp (disch := decide) only [Record.word, Flags.byte_bits, field_append, bit_append, Nat.reduceLeDiff, Nat.reduceSub,
    if_true, if_false, field_all, flag_getLsbD, toNat_ofNat_three, and_self]

/-! ### The registers that show the state (sections 12.5 and 12.6) -/

section
variable (s : State)

theorem Log.countWord_fields (l : Log) :
    l.countWord.extractLsb' 0 5 = BitVec.ofNat 5 l.records.length ∧ l.countWord.extractLsb' 5 3 = 0 ∧
    l.countWord.extractLsb' 8 4 = BitVec.ofNat 4 l.waiting.length ∧ l.countWord.extractLsb' 12 20 = 0 := by
  simp (disch := decide) only [Log.countWord, field_append, Nat.reduceLeDiff, Nat.reduceSub, if_true, if_false, field_all,
    and_self]

theorem State.hubStatusWord_fields :
    s.hubStatusWord.extractLsb' 0 2 = s.hubState.code ∧ s.hubStatusWord.extractLsb' 2 2 = 0 ∧
    s.hubStatusWord.getLsbD 4 = s.supplyWarn ∧ s.hubStatusWord.extractLsb' 5 3 = 0 ∧
    s.hubStatusWord.extractLsb' 8 2 = s.hubLastCmd.code ∧ s.hubStatusWord.extractLsb' 10 22 = 0 := by
  simp (disch := decide) only [State.hubStatusWord, field_append, bit_append, Nat.reduceLeDiff, Nat.reduceSub, if_true,
    if_false, field_all, flag_getLsbD, and_self]

theorem Direct.statusWord_fields (x : Direct) :
    x.statusWord.extractLsb' 0 4 = x.result.code ∧ (x.statusWord.extractLsb' 4 3).toNat = x.port.val ∧
    x.statusWord.getLsbD 7 = false ∧ x.statusWord.extractLsb' 8 3 = x.kind ∧ x.statusWord.extractLsb' 11 5 = 0 ∧
    x.statusWord.getLsbD 16 = x.overrun ∧ x.statusWord.extractLsb' 17 15 = 0 := by
  simp (disch := decide) only [Direct.statusWord, field_append, bit_append, Nat.reduceLeDiff, Nat.reduceSub, if_true,
    if_false, field_all, flag_getLsbD, toNat_ofNat_three, zero_getLsbD, and_self]

theorem hitWord_fields (h : Hit) :
    ((hitWord (some h)).extractLsb' 0 3).toNat = h.entry.val ∧ (hitWord (some h)).getLsbD 3 = false ∧
    ((hitWord (some h)).extractLsb' 4 3).toNat = h.channel.val ∧ (hitWord (some h)).extractLsb' 7 24 = 0 ∧
    (hitWord (some h)).getLsbD 31 = true := by
  simp (disch := decide) only [hitWord, field_append, bit_append, Nat.reduceLeDiff, Nat.reduceSub, if_true, if_false,
    field_all, flag_getLsbD, toNat_ofNat_three,
    zero_getLsbD, and_self]

theorem ScreenEntry.word_fields (e : ScreenEntry) :
    (e.word 0).extractLsb' 0 8 = e.channels ∧ (e.word 0).extractLsb' 8 2 = e.action ∧ (e.word 0).extractLsb' 10 21 = 0 ∧
    (e.word 0).getLsbD 31 = e.valid := by
  simp (disch := decide) only [ScreenEntry.word, field_append, bit_append, Nat.reduceLeDiff, Nat.reduceSub, if_true, if_false,
    field_all, flag_getLsbD, and_self]

theorem Channel.configWord_fields (ch : Channel) :
    ch.configWord.extractLsb' 0 12 = ch.answerTimeout ∧ ch.configWord.getLsbD 12 = ch.autoAsk ∧
    ch.configWord.extractLsb' 13 3 = 0 ∧ ch.configWord.extractLsb' 16 16 = ch.readyTimeout := by
  simp (disch := decide) only [Channel.configWord, field_append, bit_append, Nat.reduceLeDiff, Nat.reduceSub, if_true,
    if_false,
    field_all, flag_getLsbD, and_self]

theorem toNat_trapChannel (o : Option Chan) : (trapChannel o).toNat = (match o with
    | some c => c.val
    | none => 127) := by
  cases o with
  | none => rfl
  | some c =>
    rw [trapChannel, BitVec.toNat_ofNat]
    exact Nat.mod_eq_of_lt (Nat.lt_trans c.isLt (by decide))

theorem State.trapWord_fields (t : Trap) (caught : s.trap = some t) :
    (s.trapWord 0).extractLsb' 0 3 = t.kind.code ∧ (s.trapWord 0).getLsbD 3 = false ∧
    ((s.trapWord 0).extractLsb' 4 2).toNat = t.domain.val ∧ (s.trapWord 0).extractLsb' 6 2 = 0 ∧
    ((s.trapWord 0).extractLsb' 8 7).toNat = (match t.channel with
      | some c => c.val
      | none => 127) ∧
    (s.trapWord 0).extractLsb' 15 16 = 0 ∧ (s.trapWord 0).getLsbD 31 = true ∧ s.trapWord 1 = t.offending ∧
    s.trapWord 2 = s.lost.setWidth 32 ∧ s.trapWord 3 = t.extent.setWidth 32 := by
  simp (disch := decide) only [State.trapWord, caught, field_append, bit_append, Nat.reduceLeDiff, Nat.reduceSub, if_true,
    if_false,
    field_all, flag_getLsbD, toNat_ofNat_two, zero_getLsbD, toNat_trapChannel, and_self]

theorem toNat_pendingDomain (o : Option Dom) : (o.getD 0).val = (match o with
    | some d => d.val
    | none => 0) := by
  cases o <;> rfl

theorem State.chStatusWord_fields (c : Chan) :
    (s.chStatusWord c).extractLsb' 0 4 = (s.ch c).state.code ∧ (s.chStatusWord c).extractLsb' 4 3 = (s.wait c).code ∧
    (s.chStatusWord c).getLsbD 7 = (s.ch c).armed ∧ (s.chStatusWord c).getLsbD 8 = (s.ch c).stopPending ∧
    (s.chStatusWord c).extractLsb' 9 3 = (s.ch c).lastCmd.code ∧
    (s.chStatusWord c).extractLsb' 12 3 = BitVec.ofNat 3 (s.ch c).queue.length ∧ (s.chStatusWord c).getLsbD 15 = false ∧
    (s.chStatusWord c).extractLsb' 16 8 = (s.ch c).flushCount ∧
    ((s.chStatusWord c).extractLsb' 24 2).toNat = (s.ch c).domain.val ∧
    (s.chStatusWord c).getLsbD 26 = (s.ch c).pendingDomain.isSome ∧
    ((s.chStatusWord c).extractLsb' 27 2).toNat = (match (s.ch c).pendingDomain with
      | some d => d.val
      | none => 0) ∧
    (s.chStatusWord c).getLsbD 29 = (s.ch c).detached ∧ (s.chStatusWord c).getLsbD 30 = (s.ch c).detachPending ∧
    (s.chStatusWord c).getLsbD 31 = false := by
  rw [← toNat_pendingDomain]
  simp (disch := decide) only [State.chStatusWord, field_append, bit_append, Nat.reduceLeDiff, Nat.reduceSub, if_true,
    if_false,
    field_all, flag_getLsbD, toNat_ofNat_two, zero_getLsbD, and_self]

theorem Port.issuedByDirect_of_outstanding (p : Port) (t : Transaction) (busy : p.outstanding = some t) :
    p.issuedByDirect = true ↔ t.issuer = .direct := by
  rw [Port.issuedByDirect, busy, Option.any_some, beq_iff_eq]

theorem Port.word_fields (p : Port) :
    p.word.getLsbD 0 = p.outstanding.isSome ∧ p.word.getLsbD 1 = p.issuedByDirect ∧ p.word.extractLsb' 2 2 = 0 ∧
    p.word.extractLsb' 4 3 = p.kindCode ∧ p.word.getLsbD 7 = false ∧ p.word.extractLsb' 8 8 = p.seq ∧
    p.word.getLsbD 16 = p.ready ∧ p.word.getLsbD 17 = p.hail ∧ p.word.getLsbD 18 = p.hailSeen ∧
    p.word.getLsbD 19 = p.stray ∧ p.word.extractLsb' 20 12 = 0 := by
  simp (disch := decide) only [Port.word, field_append, bit_append, Nat.reduceLeDiff, Nat.reduceSub, if_true, if_false,
    field_all, flag_getLsbD, zero_getLsbD, and_self]

theorem Log.headWord_of_empty (l : Log) (k : Fin 6) (empty : l.records = []) : l.headWord k = 0 := by
  rw [Log.headWord, empty]

theorem Log.headWord_of_cons (l : Log) (k : Fin 6) (r : Record) (rest : List Record) (held : l.records = r :: rest) :
    l.headWord k = r.word k := by
  rw [Log.headWord, held]

end

/-! ### What a read answers by the Guard -/

section
variable (s : State) (d : Dom) (off : Offset)

/-- What R104 grants a domain, as ranges of offsets. -/
def State.grantedRange : Prop :=
  d = 0 ∨ off.toNat < 4 ∨
    (∃ c : Chan, (s.ch c).domain = d ∧ 0x400 + 0x80 * c.val ≤ off.toNat ∧ off.toNat < 0x480 + 0x80 * c.val) ∨
    (0x800 + 0x40 * d.val ≤ off.toNat ∧ off.toNat < 0x840 + 0x40 * d.val)

theorem State.grants_iff : s.grants d off = true ↔ s.grantedRange d off := by
  simp only [State.grants, State.grantedRange, Bool.or_eq_true, beq_iff_eq, decide_eq_true_eq, Option.any_eq_true,
    groupChannel_eq_some, windowLog_eq_some, or_assoc, and_comm]

theorem regAt_eq_some_iff (r : Reg) : regAt off = some r ↔ off = r.offset :=
  ⟨fun at_ => (offset_of_regAt at_).symm, fun place => place ▸ regAt_offset r⟩

theorem State.readWindow_of_not_actedOn (size : Size) (ignored : size ≠ .word ∨ off.toNat % 4 ≠ 0) :
    s.readWindow d size off = 0 := by
  have acted : actedOn size off = false := by
    simpa only [actedOn, Bool.and_eq_false_iff, beq_eq_false_iff_ne] using ignored
  rw [State.readWindow, if_pos acted]

variable (aligned : off.toNat % 4 = 0)
include aligned

theorem actedOn_of_aligned : ¬ actedOn .word off = false := by
  simp only [actedOn, aligned]
  decide

theorem State.readWindow_of_initialising (init : s.hubState = .initialising) :
    s.readWindow d .word off = if off = 0 ∨ (off = 4 ∧ d = 0) then s.readOffset off else 0 := by
  have id : regAt off = some .id ↔ off = 0 := regAt_eq_some_iff off .id
  have hubStatus : regAt off = some .hubStatus ↔ off = 4 := regAt_eq_some_iff off .hubStatus
  rw [State.readWindow, if_neg (actedOn_of_aligned off aligned), State.verdict, if_pos init]
  simp only [id, hubStatus]

theorem State.readWindow_of_granted (up : s.hubState ≠ .initialising) (granted : s.grantedRange d off) :
    s.readWindow d .word off = s.readOffset off := by
  rw [State.readWindow, if_neg (actedOn_of_aligned off aligned), State.verdict, if_neg up, if_pos ((s.grants_iff d off).mpr
    granted)]

theorem State.readWindow_of_not_granted (up : s.hubState ≠ .initialising) (refused : ¬ s.grantedRange d off) :
    s.readWindow d .word off = 0 := by
  rw [State.readWindow, if_neg (actedOn_of_aligned off aligned), State.verdict, if_neg up, if_neg (mt (s.grants_iff d
    off).mp refused)]

end

/-- Settles O35, each word by the lemma about its fields. -/
theorem resultWordsHoldTheirFields : Obligations.ResultWordsHoldTheirFields := by
  refine ⟨Run.word5_fields, Channel.word6_fields, Record.word_fields, fun _ => rfl, fun _ => rfl, fun s => ?_, by decide⟩
  refine ⟨fun l k => ⟨(s.log l).headWord_of_empty k, (s.log l).headWord_of_cons k⟩, fun l => (s.log l).countWord_fields,
    s.hubStatusWord_fields, s.direct.statusWord_fields, ?lastHit, ?hit, ?screen, ?plain, ?window, ?noTrap, s.trapWord_fields,
    fun c => ⟨s.chStatusWord_fields c, ?port, (s.ch c).configWord_fields, rfl, rfl, rfl, rfl, rfl⟩⟩
  case lastHit =>
    intro unset
    rw [State.readReg, unset, hitWord]
  case hit =>
    intro h set
    rw [State.readReg, set]
    exact hitWord_fields h
  case screen =>
    intro k
    obtain ⟨channels, action, unassigned, valid⟩ := s.screen[k].word_fields
    exact ⟨channels, action, unassigned, valid, rfl, rfl, rfl⟩
  case plain =>
    refine ⟨rfl, rfl, fun t => ⟨rfl, rfl, rfl, rfl⟩, rfl, rfl, rfl, rfl, rfl, fun l => ⟨rfl, rfl⟩, ?_⟩
    simp only [List.forall_mem_cons, State.readReg, List.not_mem_nil, false_implies, implies_true, and_self]
  case window =>
    intro d size off
    exact ⟨s.readWindow_of_not_actedOn d off size, s.readWindow_of_initialising d off, fun aligned up =>
      ⟨s.readWindow_of_granted d off aligned up, s.readWindow_of_not_granted d off aligned up⟩⟩
  case noTrap =>
    intro empty k
    rw [State.readReg, State.trapWord, empty]
  case port =>
    obtain ⟨busy, issuer, low, kind, seven, seq, ready, hail, seen, stray, high⟩ := (s.port c).word_fields
    refine ⟨busy, low, seven, fun idle => ⟨issuer.trans ?_, kind.trans ?_⟩, fun t sent => ⟨?_, kind.trans ?_⟩, seq, ready,
      hail,
      seen, stray, high⟩
    · rw [Port.issuedByDirect, idle, Option.any_none]
    · rw [Port.kindCode, idle]
    · exact (Bool.eq_iff_iff.mp issuer).trans ((s.port c).issuedByDirect_of_outstanding t sent)
    · rw [Port.kindCode, sent]

end Sys2Proof.Machine
end

section
/-! PROOF. The range checks and the format check of a descriptor (O22, O23). -/

namespace Sys2Proof.Machine

/-! ### Windows -/

section
variable (s : State) (a : Word) (n : Nat)

theorem State.window_of_tenant (t : Fin 3) (d : Dom) (tenant : d.val = t.val + 1) : s.window d = some s.windows[t] := by
  obtain rfl : d = t.succ := Fin.ext tenant
  fin_cases t <;> rfl

variable {s} {d : Dom} {w : Window}

theorem State.rangeOk_host_iff (own : s.window d = some w) :
    s.rangeOk d .host a n = true ↔ a.toNat + 4 * n ≤ w.hostPages * 4096 := by
  simp only [State.rangeOk, State.limit, own, decide_eq_true_iff]

theorem State.rangeOk_staging_iff (own : s.window d = some w) :
    s.rangeOk d .staging a n = true ↔ a.toNat + 4 * n ≤ w.stageUnits * 256 := by
  simp only [State.rangeOk, State.limit, own, decide_eq_true_iff]

/-- A translated address is the exact sum, cut to 32 bits. -/
theorem toNat_ofNat_add (base : Nat) : (BitVec.ofNat 32 base + a).toNat = (base + a.toNat) % 4294967296 := by
  rw [BitVec.toNat_add, BitVec.toNat_ofNat, Nat.mod_add_mod]

theorem State.toNat_translate_host (own : s.window d = some w) :
    (s.translate d .host a).toNat = (w.hostBase.toNat * 4096 + a.toNat) % 4294967296 := by
  simp only [State.translate, own, toNat_ofNat_add]

theorem State.toNat_translate_staging (own : s.window d = some w) :
    (s.translate d .staging a).toNat = (w.stageBase.toNat * 256 + a.toNat) % 4294967296 := by
  simp only [State.translate, own, toNat_ofNat_add]

end

/-- Settles O22: a tenant's check and translation by its window, and domain 0 apart, which has none. -/
theorem rangeChecksFollowTheWindows : Obligations.RangeChecksFollowTheWindows := by
  intro s a n
  refine ⟨fun t d tenant => ?_, rfl, ?_, fun sp => rfl⟩
  · have own := s.window_of_tenant t d tenant
    exact ⟨State.rangeOk_host_iff a n own, State.rangeOk_staging_iff a n own, State.toNat_translate_host a own,
      State.toNat_translate_staging a own⟩
  · exact decide_eq_true_iff

/-! ### The format of a descriptor -/

/-- The value of the field DIR. -/
def Dir.code : Dir → Nat
  | .none => 0
  | .output => 1
  | .input => 2
  | .bad => 3

section
variable (d : Snapshot)

theorem Snapshot.toNat_dir : (d.w0.extractLsb' 4 2).toNat = d.dir.code := by
  have value : ∀ y : BitVec 2, y.toNat = 2 * (y.getLsbD 1).toNat + (y.getLsbD 0).toNat := by decide
  have high : (d.w0.extractLsb' 4 2).getLsbD 1 = d.w0.getLsbD 5 := by simp
  have low : (d.w0.extractLsb' 4 2).getLsbD 0 = d.w0.getLsbD 4 := by simp
  rw [value, high, low, Snapshot.dir]
  cases d.w0.getLsbD 5 <;> cases d.w0.getLsbD 4 <;> rfl

theorem Snapshot.leads_too_many_iff : ¬ d.leads.toNat ≤ 4 ↔ d.leads.toNat = 5 ∨ d.leads.toNat = 6 ∨ d.leads.toNat = 7 := by
  have := d.leads.isLt
  omega

theorem Snapshot.leads_ne_zero_iff : d.leads ≠ 0 ↔ 1 ≤ d.leads.toNat := by
  rw [ne_eq, ← BitVec.toNat_inj, Nat.one_le_iff_ne_zero]
  rfl

/-- The lines of R24's table, each as `Snapshot.formatOk` tests it. -/
theorem Snapshot.formatOk_eq_false_iff : d.formatOk = false ↔
    ¬ d.leads.toNat ≤ 4 ∨ d.dir = .bad ∨ (d.hasData = true ∧ d.count = 0) ∨ (d.dir = .none ∧ d.count ≠ 0) ∨
    (d.dir = .none ∧ d.loop = true) ∨ (d.dir = .none ∧ d.turn = true) ∨ d.unassigned ≠ 0 ∨
    (d.leads ≠ 0 ∧ d.leadList.extractLsb' 0 2 ≠ 0) ∨ (d.hasData = true ∧ d.buffer.extractLsb' 0 2 ≠ 0) := by
  simp only [Snapshot.formatOk, wordAligned, Bool.and_eq_false_iff, decide_eq_false_iff_not, bne_eq_false_iff_eq,
    beq_eq_false_iff_ne, Bool.not_eq_false', Bool.and_eq_true, Bool.not_eq_true', beq_iff_eq, bne_iff_ne, or_assoc]

end

section
variable (d : Snapshot)

theorem Snapshot.hasData_iff_code : d.hasData = true ↔ (d.w0.extractLsb' 4 2).toNat = 1 ∨ (d.w0.extractLsb' 4 2).toNat = 2 := by
  rw [d.toNat_dir, Snapshot.hasData]
  cases d.dir <;> decide

theorem Snapshot.dir_none_iff_code : d.dir = .none ↔ (d.w0.extractLsb' 4 2).toNat = 0 := by
  rw [d.toNat_dir]
  cases d.dir <;> decide

theorem Snapshot.dir_bad_iff_code : d.dir = .bad ↔ (d.w0.extractLsb' 4 2).toNat = 3 := by
  rw [d.toNat_dir]
  cases d.dir <;> decide

theorem Snapshot.count_eq_zero_iff : d.count = 0 ↔ (d.w1.extractLsb' 0 16).toNat = 0 := by
  rw [← BitVec.toNat_inj]
  rfl

/-- With LEADS in range the test of the lead list is the table's. -/
theorem Snapshot.leadList_line_iff (few : d.leads.toNat ≤ 4) (P : Prop) :
    (d.leads ≠ 0 ∧ P) ↔ 1 ≤ d.leads.toNat ∧ d.leads.toNat ≤ 4 ∧ P := by
  rw [d.leads_ne_zero_iff, and_iff_right few]

end

/-- Settles O23: each line of the table is a line of the check, its fields being those of the words. -/
theorem formatCheckFollowsItsTable : Obligations.FormatCheckFollowsItsTable := by
  intro d
  refine d.formatOk_eq_false_iff.trans ?_
  by_cases few : d.leads.toNat ≤ 4
  · exact or_congr d.leads_too_many_iff (or_congr d.dir_bad_iff_code
      (or_congr (and_congr d.hasData_iff_code d.count_eq_zero_iff)
      (or_congr (and_congr d.dir_none_iff_code (not_congr d.count_eq_zero_iff))
      (or_congr (and_congr_left' d.dir_none_iff_code) (or_congr (and_congr_left' d.dir_none_iff_code)
      (or_congr Iff.rfl (or_congr (d.leadList_line_iff few _) (and_congr_left' d.hasData_iff_code))))))))
  · exact iff_of_true (.inl few) (.inl (d.leads_too_many_iff.mp few))

end Sys2Proof.Machine
end
